-- ==== Sys2Proof/Word.lean ====
section
/-! DEFINITION. The word types of the block: the fields of a command word, the channel codes, the colour word (spec 30_encoding.md R70, R75; 41_color_model.md R110). -/

namespace Sys2Proof

/-- An 8-bit value: a character code (format `CHR8`, R74), one channel of a colour word (R75). -/
abbrev Byte := BitVec 8

/-- A command word (format `CW64`, R70). -/
abbrev CmdWord := BitVec 64

/-- The 4-bit symbol field of a command word: 0..9 select a pattern, 10..15 select nothing (R58). -/
abbrev SymField := BitVec 4

/-- A colour channel code: a 16-bit field read as signed Q8.8 (R110). -/
abbrev ChanCode := BitVec 16

/-- A colour word (format `GRB24`): green 23:16, red 15:8, blue 7:0 (R75). -/
abbrev ColorWord := BitVec 24

/-- A symbol that has a row in the Pattern Table (R51). -/
abbrev Symbol := Fin 10

/-- A colour operand `(r, g, b)`: three channel codes as supplied (R110). -/
structure Color where
  r : ChanCode
  g : ChanCode
  b : ChanCode
deriving DecidableEq, Repr, Inhabited

end Sys2Proof
end

