-- ==== Sys2Proof/Syntax.lean ====
section
/-! DEFINITION. The instructions: one constructor per row of spec/opcode_table.json. Sixteen rows have the format `CW64` (30_encoding.md R70, R72), fifteen the format `CHR8` (R74: the character a `CHAR` word carries). An operand is a field the row reads (R71). -/

namespace Sys2Proof

inductive Instr where
  /-- `NOP`, OP 0 (R170). -/
  | nop
  /-- `DIGIT d`, OP 1 (R171). -/
  | digit (d : SymField)
  /-- `PWRON`, OP 2 (R172). -/
  | pwron
  /-- `PWROFF`, OP 3 (R173). -/
  | pwroff
  /-- `RENDER s, r, g, b`, OP 4 (R174). -/
  | render (s : SymField) (r g b : ChanCode)
  /-- `CLEAR`, OP 5 (R176). -/
  | clear
  /-- `CHAR c`, OP 6 (R175). -/
  | char (c : Byte)
  /-- Reserved operation codes 7 to 15 (R177). -/
  | reserved7
  | reserved8
  | reserved9
  | reserved10
  | reserved11
  | reserved12
  | reserved13
  | reserved14
  | reserved15
  /-- The `CHR8` rows '0' to '9', codes 0x30 to 0x39 (R74). -/
  | charDigit0
  | charDigit1
  | charDigit2
  | charDigit3
  | charDigit4
  | charDigit5
  | charDigit6
  | charDigit7
  | charDigit8
  | charDigit9
  /-- The `CHR8` row 'L', 0x4C. -/
  | charUpperL
  /-- The `CHR8` row 'l', 0x6C. -/
  | charLowerL
  /-- The `CHR8` row 'D', 0x44. -/
  | charUpperD
  /-- The `CHR8` row 'd', 0x64. -/
  | charLowerD
  /-- The default `CHR8` row: any other code, the lowest priority. -/
  | charOther (c : Byte)
deriving DecidableEq, Repr

end Sys2Proof
end

