-- ==== Sys2Proof/Config.lean ====
section
/-! DEFINITION. The implementation parameters of spec 00_scope.md R6, the input sample of 10_state.md R26, and the free values: what the spec leaves open is an opaque constant, of which nothing can be proved. -/

namespace Sys2Proof.Config

/-! ## Sizes and timing: the values R6 gives for this hardware -/

/-- `N`: grid cells, LEDs, colour words a frame. -/
abbrev N : Nat := 25
/-- `ROWS`: informative, no datapath rule reads it. -/
abbrev rows : Nat := 5
/-- `COLS`: informative, no datapath rule reads it. -/
abbrev cols : Nat := 5
/-- `NSYM`: symbols in the Pattern Table. -/
abbrev nsym : Nat := 10
/-- `CH_ONE`: the channel code of intensity 1.0. -/
abbrev chOne : Nat := 256
/-- `CH_MAX`: the largest encoded channel value. -/
abbrev chMax : Nat := 255
/-- `WORD_W`: bits of a colour word. -/
abbrev wordW : Nat := 24
/-- `F_CLK` in hertz: informative, no rule reads it (R9, R250). -/
abbrev fClk : Nat := 2400000
/-- `T_BIT`: ticks a transmitted bit takes. -/
abbrev tBit : Nat := 3
/-- `T1H`: high ticks of a 1. -/
abbrev t1h : Nat := 2
/-- `T1L`: low ticks of a 1. -/
abbrev t1l : Nat := 1
/-- `T0H`: high ticks of a 0. -/
abbrev t0h : Nat := 1
/-- `T0L`: low ticks of a 0. -/
abbrev t0l : Nat := 2
/-- `T_RESET`: ticks of the reset gap. -/
abbrev tReset : Nat := 120
/-- `PAT_LEN`, the row length of the ROM image: R6 says it must equal `N` (log entry 5). A platform with another value halts at initialisation (R7, R201). -/
abbrev patLen : Nat := N
/-- `POWER_ON_SYMBOL` (R6, R172). -/
abbrev powerOnSymbol : SymField := 0
/-- `GAMMA_LUT`: the identity table for this hardware (R113). -/
def gammaLut (x : Byte) : Byte := x

/-- Ticks of a burst, `N * 24 * T_BIT` (R77). -/
abbrev burstTicks : Nat := N * wordW * tBit
/-- `L`: ticks of a burst and its reset gap (R139). -/
abbrev frameTicks : Nat := burstTicks + tReset

/-! ## What the spec leaves open -/

/-- The contents of the Pattern Table, `PAT[s][i]`, lit or unlit: OPEN (R6, R104). The index is a number, since N is a parameter too; only those below N are read. Log entry 3. -/
opaque pat : Symbol → Nat → Bool
/-- `DEFAULT_ON_COLOR`: OPEN (R6). Log entry 4. -/
opaque defaultOnColor : Color
/-- `SERPENTINE`: OPEN, read by no datapath rule (R55). Log entry 6. -/
opaque serpentine : Bool
/-- The bit that `FRAME[CELL][BITI]` would give for a `CELL` or `BITI` outside the frame store; no reachable state reads it (R32). Log entry 10. -/
opaque strayFrameBit : Nat → Nat → Bool

/-- The parameters that come with the ROM image and the platform (00_scope.md R6, R18). -/
structure Platform where
  /-- `PAT` -/
  pat : Symbol → Nat → Bool
  /-- `PAT_LEN` -/
  patLen : Nat
  /-- `DEFAULT_ON_COLOR` -/
  defaultOnColor : Color
  /-- `SERPENTINE` -/
  serpentine : Bool

/-- The platform of this hardware: what R6 calls `OPEN` is a free constant. -/
def platform : Platform :=
  { pat := pat, patLen := patLen, defaultOnColor := defaultOnColor, serpentine := serpentine }

/-- `PAT_REF` (40_pattern_table.md R104): row s as a 25-bit number, bit i being `PAT_REF[s][i]`. Not the hardware's table. -/
def patRefRows : Vector (BitVec 25) nsym :=
  #v[0xE5294E, 0xE210C4, 0xE1390E, 0xE4390E, 0x84394A, 0xE4384E, 0xE5384E, 0x84210E, 0xE5394E, 0xE4394E]

/-- The reference instance of the OPEN parameters, a premise of the spec's test vectors and nothing more (R104; 95_test_vectors.md). -/
def referencePlatform : Platform :=
  { pat := fun s i => (patRefRows.get s).getLsbD i
    patLen := N
    defaultOnColor := { r := 0x004D, g := 0, b := 0 }
    serpentine := false }

/-! ## The inputs -/

/-- The inputs of one tick (10_state.md R26; `clk` is the tick itself). -/
structure Input where
  rst       : Bool
  cfgChanOk : Bool
  cmdValid  : Bool
  cmd       : CmdWord
deriving DecidableEq, Repr, Inhabited

/-- What the host drives in a tick for which the state lists no sample: free, any schedule is a run (R18; 93_implementation_defined.md U17). Log entry 1. -/
opaque hostInput : Nat → Input

/-! ## The whole parameter set, for the well-formedness rule R7 -/

/-- The parameter table of R6, as one record: what a machine is built from (Machine/Build.lean). -/
structure ParamSet where
  n             : Nat
  rows          : Nat
  cols          : Nat
  nsym          : Nat
  symW          : Nat
  intW          : Nat
  chW           : Nat
  chF           : Nat
  chOne         : Nat
  chMax         : Nat
  gammaLut      : Byte → Byte
  wordW         : Nat
  fClk          : Nat
  tBit          : Nat
  t1h           : Nat
  t1l           : Nat
  t0h           : Nat
  t0l           : Nat
  tReset        : Nat
  powerOnSymbol : SymField
  cmdW          : Nat
  platform      : Platform

/-- The parameter set of this hardware (R6). -/
def paramSet : ParamSet :=
  { n := N, rows := rows, cols := cols, nsym := nsym, symW := 4, intW := 1, chW := 16, chF := 8,
    chOne := chOne, chMax := chMax, gammaLut := gammaLut,
    wordW := wordW, fClk := fClk, tBit := tBit, t1h := t1h, t1l := t1l, t0h := t0h, t0l := t0l,
    tReset := tReset, powerOnSymbol := powerOnSymbol, cmdW := 64, platform := platform }

end Sys2Proof.Config
end

