-- ==== Sys2Proof/WellFormed.lean ====
section
/-! DEFINITION. Well-formed instructions (what the encodings admit, 30_encoding.md R74, R79) and well-formed parameter sets (00_scope.md R7). -/

namespace Sys2Proof

/-- The 14 character codes that have a row of their own (30_encoding.md R74). -/
def selectingCodes : List Byte :=
  [0x30, 0x31, 0x32, 0x33, 0x34, 0x35, 0x36, 0x37, 0x38, 0x39, 0x4C, 0x6C, 0x44, 0x64]

/-- Every operand value is legal (R79) but for the default character row, which has the 242 codes that no other row has. A symbol above 9 is encodable and defined (R203), so it is well formed. -/
def Instr.wf : Instr → Bool
  | .nop | .pwron | .pwroff | .clear => true
  | .digit _ => true
  | .render _ _ _ _ => true
  | .char _ => true
  | .reserved7 | .reserved8 | .reserved9 | .reserved10 | .reserved11 | .reserved12 | .reserved13
  | .reserved14 | .reserved15 => true
  | .charDigit0 | .charDigit1 | .charDigit2 | .charDigit3 | .charDigit4 | .charDigit5 | .charDigit6
  | .charDigit7 | .charDigit8 | .charDigit9 => true
  | .charUpperL | .charLowerL | .charUpperD | .charLowerD => true
  | .charOther c => !selectingCodes.contains c

/-- The monotone gamma table of R7: fixed end points, never decreasing over its 256 entries. -/
def Config.gammaWf (lut : Byte → Byte) : Bool :=
  lut 0 == 0 && lut 255 == 255 &&
    (List.range 255).all fun x => decide (lut (BitVec.ofNat 8 x) ≤ lut (BitVec.ofNat 8 (x + 1)))

/-- R7, clause by clause. `PAT_LEN = N` is no part of it (R7: a mismatch builds, and the machine halts). -/
def Config.ParamSet.wf (p : Config.ParamSet) : Bool :=
  decide (1 ≤ p.n) && p.nsym == 10 &&
  decide (1 ≤ p.t0h) && decide (1 ≤ p.t0l) && decide (1 ≤ p.t1h) && decide (1 ≤ p.t1l) &&
  p.t0h + p.t0l == p.tBit && p.t1h + p.t1l == p.tBit && decide (p.t0h < p.t1h) &&
  decide (1 ≤ p.tReset) && Config.gammaWf p.gammaLut

/-- The sizes of the formats, which the rules of the formats write as numbers and not as parameters (30_encoding.md R70, R75; 40_pattern_table.md R101; 41_color_model.md R110 to R112). DESIGN CHOICE, log entry 21: no rule says what a machine with other formats does. -/
def Config.ParamSet.formats (p : Config.ParamSet) : Bool :=
  p.symW == 4 && p.intW == 1 && p.chW == 16 && p.chF == 8 && p.chOne == 256 && p.chMax == 255 &&
  p.wordW == 24 && p.cmdW == 64

end Sys2Proof
end

