-- ==== Sys2Proof/Decode.lean ====
section
/-! DEFINITION. The two encodings of spec/opcode_table.json (30_encoding.md R70 to R74, R78), the decoder, total on every word, and after it the encoder. -/

namespace Sys2Proof

/-! ## Fields of a command word (R70) -/

/-- `OP`, bits 63:60. -/
def opOf (cw : CmdWord) : BitVec 4 := cw.extractLsb' 60 4
/-- `SYM`, bits 59:56. -/
def symOf (cw : CmdWord) : SymField := cw.extractLsb' 56 4
/-- `CHR`, bits 55:48. -/
def chrOf (cw : CmdWord) : Byte := cw.extractLsb' 48 8
/-- `R`, bits 47:32. -/
def rOf (cw : CmdWord) : ChanCode := cw.extractLsb' 32 16
/-- `G`, bits 31:16. -/
def gOf (cw : CmdWord) : ChanCode := cw.extractLsb' 16 16
/-- `B`, bits 15:0. -/
def bOf (cw : CmdWord) : ChanCode := cw.extractLsb' 0 16

/-- A command word from its six fields (R70). -/
def packCmd (op : BitVec 4) (sym : SymField) (chr : Byte) (r g b : ChanCode) : CmdWord :=
  op ++ sym ++ chr ++ r ++ g ++ b

/-! ## The decoder -/

/-- A word of one of the table's two formats. -/
inductive Encoded where
  /-- format `CW64`, a word on the command port -/
  | cw64 (cw : CmdWord)
  /-- format `CHR8`, the character that a `CHAR` word carries -/
  | chr8 (c : Byte)
deriving DecidableEq, Repr

/-- Format `CW64`: `OP` alone selects the row (R72); a field the row does not read is dropped (R71). -/
def decodeCmd (cw : CmdWord) : Instr :=
  match (opOf cw).toNat with
  | 0 => .nop
  | 1 => .digit (symOf cw)
  | 2 => .pwron
  | 3 => .pwroff
  | 4 => .render (symOf cw) (rOf cw) (gOf cw) (bOf cw)
  | 5 => .clear
  | 6 => .char (chrOf cw)
  | 7 => .reserved7
  | 8 => .reserved8
  | 9 => .reserved9
  | 10 => .reserved10
  | 11 => .reserved11
  | 12 => .reserved12
  | 13 => .reserved13
  | 14 => .reserved14
  | _ => .reserved15

/-- Format `CHR8`: the 14 rows with mask 0xFF, then the default row (R74). -/
def decodeChr (c : Byte) : Instr :=
  match c.toNat with
  | 0x30 => .charDigit0
  | 0x31 => .charDigit1
  | 0x32 => .charDigit2
  | 0x33 => .charDigit3
  | 0x34 => .charDigit4
  | 0x35 => .charDigit5
  | 0x36 => .charDigit6
  | 0x37 => .charDigit7
  | 0x38 => .charDigit8
  | 0x39 => .charDigit9
  | 0x4C => .charUpperL
  | 0x6C => .charLowerL
  | 0x44 => .charUpperD
  | 0x64 => .charLowerD
  | _ => .charOther c

/-- Total, and no word is refused: no encoding traps (R79). -/
def decode : Encoded → Instr
  | .cw64 cw => decodeCmd cw
  | .chr8 c => decodeChr c

/-- Why a string of bytes is no word of either format. -/
inductive DecodeError where
  /-- The table's formats have 8 bytes and 1 byte; this is how many there were. -/
  | noFormatOfLength (n : Nat)
deriving DecidableEq, Repr

/-- The bits of a byte string, numbered as the opcode table numbers them: the first byte holds bits 7..0 (log entry 9). -/
def bytesValue : List Byte → Nat
  | [] => 0
  | b :: bs => b.toNat + 256 * bytesValue bs

/-- The decoder on any bytes: 8 bytes are a `CW64` word, 1 byte is a `CHR8` code, every other length is rejected by name (R80: every command has the same length). -/
def decodeBytes (bs : List Byte) : Except DecodeError Instr :=
  if bs.length = 8 then .ok (decodeCmd (BitVec.ofNat 64 (bytesValue bs)))
  else if bs.length = 1 then .ok (decodeChr (BitVec.ofNat 8 (bytesValue bs)))
  else .error (.noFormatOfLength bs.length)

/-! ## The encoder (R72, R74; fields not read are written as zero, R81) -/

def encode : Instr → Encoded
  | .nop => .cw64 (packCmd 0 0 0 0 0 0)
  | .digit d => .cw64 (packCmd 1 d 0 0 0 0)
  | .pwron => .cw64 (packCmd 2 0 0 0 0 0)
  | .pwroff => .cw64 (packCmd 3 0 0 0 0 0)
  | .render s r g b => .cw64 (packCmd 4 s 0 r g b)
  | .clear => .cw64 (packCmd 5 0 0 0 0 0)
  | .char c => .cw64 (packCmd 6 0 c 0 0 0)
  | .reserved7 => .cw64 (packCmd 7 0 0 0 0 0)
  | .reserved8 => .cw64 (packCmd 8 0 0 0 0 0)
  | .reserved9 => .cw64 (packCmd 9 0 0 0 0 0)
  | .reserved10 => .cw64 (packCmd 10 0 0 0 0 0)
  | .reserved11 => .cw64 (packCmd 11 0 0 0 0 0)
  | .reserved12 => .cw64 (packCmd 12 0 0 0 0 0)
  | .reserved13 => .cw64 (packCmd 13 0 0 0 0 0)
  | .reserved14 => .cw64 (packCmd 14 0 0 0 0 0)
  | .reserved15 => .cw64 (packCmd 15 0 0 0 0 0)
  | .charDigit0 => .chr8 0x30
  | .charDigit1 => .chr8 0x31
  | .charDigit2 => .chr8 0x32
  | .charDigit3 => .chr8 0x33
  | .charDigit4 => .chr8 0x34
  | .charDigit5 => .chr8 0x35
  | .charDigit6 => .chr8 0x36
  | .charDigit7 => .chr8 0x37
  | .charDigit8 => .chr8 0x38
  | .charDigit9 => .chr8 0x39
  | .charUpperL => .chr8 0x4C
  | .charLowerL => .chr8 0x6C
  | .charUpperD => .chr8 0x44
  | .charLowerD => .chr8 0x64
  | .charOther c => .chr8 c

/-- The word that brings an encoded instruction to the command port: a `CW64` word is presented as it is, a character travels in the `CHR` field of a `CHAR` word (R74, log entry 8). -/
def portWord : Encoded → CmdWord
  | .cw64 cw => cw
  | .chr8 c => packCmd 6 0 c 0 0 0

/-- The operation code of an instruction's word on the port (R72). -/
def opNumber : Instr → BitVec 4
  | .nop => 0
  | .digit _ => 1
  | .pwron => 2
  | .pwroff => 3
  | .render _ _ _ _ => 4
  | .clear => 5
  | .char _ => 6
  | .reserved7 => 7
  | .reserved8 => 8
  | .reserved9 => 9
  | .reserved10 => 10
  | .reserved11 => 11
  | .reserved12 => 12
  | .reserved13 => 13
  | .reserved14 => 14
  | .reserved15 => 15
  | .charDigit0 | .charDigit1 | .charDigit2 | .charDigit3 | .charDigit4 | .charDigit5 | .charDigit6
  | .charDigit7 | .charDigit8 | .charDigit9 => 6
  | .charUpperL | .charLowerL | .charUpperD | .charLowerD => 6
  | .charOther _ => 6

/-! ## The host's numbering of the table's words -/

/-- A table word of nbits bits, bit 0 the least significant bit, the bits above nbits zero: an 8-bit row is a `CHR8` code, every other a `CW64` word. -/
def tableEncoded (nbits w : Nat) : Option Encoded :=
  if nbits = 8 then some (.chr8 (BitVec.ofNat 8 w))
  else if nbits ≤ 64 then some (.cw64 (BitVec.ofNat 64 (w % 2 ^ nbits)))
  else none

/-- The instruction the decoder reads from a table word. -/
def decodeTableWord (nbits w : Nat) : Option Instr := (tableEncoded nbits w).map decode

end Sys2Proof
end

