-- ==== Sys2Proof/Machine/State.lean ====
section
/-! DEFINITION. The state of the block: the registers of spec 10_state.md R20 with their widths, the model's two fields for the inputs to come, the reasons a step can stop, and the reset state (R35). -/

namespace Sys2Proof.Machine

/-- `ST`, the top-level state (R21). -/
inductive TopState where
  /-- code 0: after reset, the initialisation check has not run -/
  | uninit
  /-- code 1: a configuration failure was detected -/
  | halted
  /-- code 2: ready to accept a command -/
  | idle
  /-- code 3: a frame's bits are being driven on `dout` -/
  | shift
  /-- code 4: the reset gap -/
  | gap
deriving DecidableEq, Repr

/-- The Transmission Frame: N colour words, all of them (R25, R52). -/
abbrev Frame := Vector ColorWord Config.N

/-- The machine. Every field but the last two is a register of R20 under its own name. -/
structure State where
  /-- `ST` (R21) -/
  st      : TopState
  /-- `ANIM_ON` (R22): false is Off -/
  animOn  : Bool
  /-- `ANIM_SYM` (R22) -/
  animSym : SymField
  /-- `ANIM_R` (R23), as supplied, not clamped -/
  animR   : ChanCode
  /-- `ANIM_G` (R23) -/
  animG   : ChanCode
  /-- `ANIM_B` (R23) -/
  animB   : ChanCode
  /-- `FRAME` (R25) -/
  frame   : Frame
  /-- `CELL` (R27) -/
  cell    : BitVec 5
  /-- `BITI` (R28) -/
  biti    : BitVec 5
  /-- `TCNT` (R29) -/
  tcnt    : BitVec 2
  /-- `GCNT` (R30) -/
  gcnt    : BitVec 7
  /-- The model's own: what the host will drive in the coming ticks, the next tick first (log entry 1). -/
  inputs  : List Config.Input
  /-- The model's own: ticks gone by, the index of the free input of a tick that inputs does not reach (log entry 1). -/
  tick    : Nat
deriving DecidableEq, Repr

/-- Reasons for a fault. There is none: the block has no trap mechanism (60_exceptions.md R205, R209) and a configuration failure is the state `HALTED` (R201). Log entry 13. -/
inductive Fault where
deriving DecidableEq, Repr

/-- Reasons for a refusal. -/
inductive Refusal where
  /-- Raised by an arm of exec for an instruction that has no meaning yet; safe. No arm raises it. -/
  | notModelled (mnemonic : String)
deriving DecidableEq, Repr

/-- What one step answers. -/
abbrev Result := Host.Outcome State Fault Refusal

/-- `RESET_STATE` (R35, R230). The two fields of the model's own are a design choice (log entry 2). -/
def State.reset : State :=
  { st := .uninit
    animOn := false
    animSym := 0
    animR := 0
    animG := 0
    animB := 0
    frame := Vector.replicate Config.N 0
    cell := 0
    biti := 23
    tcnt := 0
    gcnt := 0
    inputs := []
    tick := 0 }

end Sys2Proof.Machine
end

