-- ==== Sys2Proof/Machine/Operands.lean ====
section
/-! DEFINITION. The operand functions: symbol check, `LOOKUP` (40_pattern_table.md), the Color Model `CLAMP`, `SCALE`, `GAMMA`, `CHAN`, `TO_WORD` (41_color_model.md), the frame of a render, and the informative scan maps (20_memory.md R55). Pure functions: none reads or writes the state (R57, R100, R115). -/

namespace Sys2Proof.Machine

open Sys2Proof.Config (Platform N)

/-! ## Symbols and the Pattern Table -/

/-- The symbol a 4-bit field selects: 0..9 have a row, 10..15 select nothing (R54, R58, R103). -/
def selectSymbol (s : SymField) : Option Symbol :=
  if h : s.toNat < 10 then some ⟨s.toNat, h⟩ else none

/-- `LOOKUP(s)[i]` (R100): one bit, lit or unlit (R101). -/
def lookup (p : Platform) (s : Symbol) (i : Nat) : Bool := p.pat s i

/-! ## The Color Model -/

/-- `CLAMP(x)` (R111): an integer into 0..256. -/
def clamp (x : Int) : Nat := if x < 0 then 0 else if 256 < x then 256 else x.toNat

/-- `SCALE(k)` (R112): `(k * 255 + 128) >> 8`, the shift being floor division (R8). -/
def scale (k : Nat) : Nat := (k * 255 + 128) / 256

/-- `CHAN(x)` (R114) of a channel code read as `signed16` (R8, R110), for a table `GAMMA_LUT`. -/
def chanBy (lut : Byte → Byte) (x : ChanCode) : Byte := lut (BitVec.ofNat 8 (scale (clamp x.toInt)))

/-- `TO_WORD(r, g, b)` (R115): green, red, blue from the most significant byte down. -/
def toWordBy (lut : Byte → Byte) (c : Color) : ColorWord := chanBy lut c.g ++ chanBy lut c.r ++ chanBy lut c.b

/-- The frame of n words a render builds (R162): the word w at a lit cell, the zero word at an unlit one; index, cell and transmission order are one (R55). -/
def frameBy (n : Nat) (p : Platform) (s : Symbol) (w : ColorWord) : Vector ColorWord n :=
  Vector.ofFn fun i => if lookup p s i.val then w else 0

/-- `GAMMA(lin)` (R113). -/
def gamma (lin : Byte) : Byte := Config.gammaLut lin

/-- `CHAN` of this hardware. -/
def chan (x : ChanCode) : Byte := chanBy gamma x

/-- `TO_WORD` of this hardware. -/
def toWord (c : Color) : ColorWord := toWordBy gamma c

/-- The frame a render builds on this hardware. -/
def renderFrame (p : Platform) (s : Symbol) (c : Color) : Frame := frameBy N p s (toWord c)

/-- The all-zero frame (R163). -/
def zeroFrame : Frame := Vector.replicate N 0

/-! ## Informative: where a cell index sits on the grid (R55). No operation reads it. -/

/-- The two candidate maps from (row, column) to the linear index. -/
def scanIndex (serpentine : Bool) (row col : Nat) : Nat :=
  if serpentine && row % 2 == 1 then row * Config.cols + (Config.cols - 1 - col) else row * Config.cols + col

end Sys2Proof.Machine
end

