-- ==== Sys2Proof/Machine/Ops.lean ====
section
/-! DEFINITION. The named operations on the state: the input sample of a tick, reset (70_reset_and_hazards.md R230), the halt (60_exceptions.md R201, R209: the block's only exception-like entry; it has no return, R210), the register writes, `START_TX`, `DO_RENDER`, `DO_CLEAR` (43_animation_controller.md R162 to R164), the read of one frame bit, and `EXEC_CHAR` (R175). -/

namespace Sys2Proof.Machine

open Sys2Proof.Config (Platform Input N)

/-! ## Inputs (R26): sampled once a tick -/

/-- The sample of the tick k ticks from now, after tick ticks: the listed one, or the free value of that tick (log entry 1). -/
def sampleAt (inputs : List Input) (tick k : Nat) : Input :=
  match inputs[k]? with
  | some i => i
  | none => Config.hostInput (tick + k)

/-- What the host drives k ticks from now. -/
def State.inputAt (s : State) (k : Nat) : Input := sampleAt s.inputs s.tick k

/-- The sample of this tick. -/
def State.input (s : State) : Input := s.inputAt 0

/-- The inputs move on by one tick; no register changes. -/
def State.elapse (s : State) : State := { s with inputs := s.inputs.tail, tick := s.tick + 1 }

/-- This tick's sample replaced by i. -/
def State.present (s : State) (i : Input) : State := { s with inputs := i :: s.inputs.tail }

/-! ## Reset and halt -/

/-- A tick with `rst = 1`: every register takes its value of R35 (R230); the inputs are not registers. -/
def State.toReset (s : State) : State := { State.reset with inputs := s.inputs, tick := s.tick }

/-- Entering `HALTED` writes `ST` and nothing else (R201, R209). -/
def State.halt (s : State) : State := { s with st := .halted }

/-- Entering `GAP` (R132, R135): `ST` and `GCNT`. -/
def State.enterGap (s : State) : State := { s with st := .gap, gcnt := 0 }

/-! ## Register writes -/

/-- The Animation State registers are written together (R23, R165). -/
def State.setAnim (s : State) (on : Bool) (sym : SymField) (c : Color) : State :=
  { s with animOn := on, animSym := sym, animR := c.r, animG := c.g, animB := c.b }

/-- `FRAME` is written whole (R56). -/
def State.setFrame (s : State) (f : Frame) : State := { s with frame := f }

/-- `START_TX` (R164). -/
def State.startTx (s : State) : State := { s with st := .shift, cell := 0, biti := 23, tcnt := 0 }

/-! ## The two public operations -/

/-- `DO_RENDER(S, s, (r, g, b))` (R162); a symbol above 9 does nothing (R203). -/
def doRender (p : Platform) (s : State) (sym : SymField) (c : Color) : State :=
  match selectSymbol sym with
  | none => s
  | some k => ((s.setAnim true sym c).setFrame (renderFrame p k c)).startTx

/-- `DO_CLEAR(S)` (R163). -/
def doClear (s : State) : State := ((s.setAnim false 0 ⟨0, 0, 0⟩).setFrame zeroFrame).startTx

/-- `EXEC_CHAR(S, c)` (R175), branch by branch. -/
def execCharacter (p : Platform) (s : State) (c : Byte) : State :=
  if 0x30 ≤ c.toNat ∧ c.toNat ≤ 0x39 then doRender p s (BitVec.ofNat 4 (c.toNat - 0x30)) p.defaultOnColor
  else if c = 0x4C ∨ c = 0x6C then doRender p s Config.powerOnSymbol p.defaultOnColor
  else if c = 0x44 ∨ c = 0x64 then doClear s
  else s

/-! ## Reading the frame store -/

/-- `FRAME[CELL][BITI]` (R56, R137). Outside the store, where no reachable state is (R32), the bit is free (log entry 10). -/
def State.frameBit (s : State) : Bool :=
  if h : s.cell.toNat < N ∧ s.biti.toNat < 24 then (s.frame[s.cell.toNat]'h.1).getLsbD s.biti.toNat
  else Config.strayFrameBit s.cell.toNat s.biti.toNat

end Sys2Proof.Machine
end

