-- ==== Sys2Proof/Machine/Characters.lean ====
section
/-! DEFINITION. The meanings of the `CHR8` rows (30_encoding.md R74): what a `CHAR` word does for each character, each written from the row's equivalent command (`DIGIT 0` to `DIGIT 9`, `PWRON`, `PWROFF`, `NOP`). -/

namespace Sys2Proof.Machine

/-- A digit row: `DIGIT d`. -/
def selectDigit (d : SymField) (s : State) : State :=
  doRender Config.platform s d Config.platform.defaultOnColor

/-- '0' -/
def execCharDigit0 (s : State) : Result := .next (selectDigit 0 s)
/-- '1' -/
def execCharDigit1 (s : State) : Result := .next (selectDigit 1 s)
/-- '2' -/
def execCharDigit2 (s : State) : Result := .next (selectDigit 2 s)
/-- '3' -/
def execCharDigit3 (s : State) : Result := .next (selectDigit 3 s)
/-- '4' -/
def execCharDigit4 (s : State) : Result := .next (selectDigit 4 s)
/-- '5' -/
def execCharDigit5 (s : State) : Result := .next (selectDigit 5 s)
/-- '6' -/
def execCharDigit6 (s : State) : Result := .next (selectDigit 6 s)
/-- '7' -/
def execCharDigit7 (s : State) : Result := .next (selectDigit 7 s)
/-- '8' -/
def execCharDigit8 (s : State) : Result := .next (selectDigit 8 s)
/-- '9' -/
def execCharDigit9 (s : State) : Result := .next (selectDigit 9 s)
/-- 'L': `PWRON` -/
def execCharUpperL (s : State) : Result := .next (selectDigit Config.powerOnSymbol s)
/-- 'l': `PWRON` -/
def execCharLowerL (s : State) : Result := .next (selectDigit Config.powerOnSymbol s)
/-- 'D': `PWROFF` -/
def execCharUpperD (s : State) : Result := .next (doClear s)
/-- 'd': `PWROFF` -/
def execCharLowerD (s : State) : Result := .next (doClear s)
/-- any other code: `NOP`; the code itself has no effect -/
def execCharOther (_c : Byte) (s : State) : Result := .next s

end Sys2Proof.Machine
end

