-- ==== Sys2Proof/Machine/Controller.lean ====
section
/-! DEFINITION. The meanings of the `CW64` commands (43_animation_controller.md R161, R170 to R177), one definition each over `DO_RENDER`, `DO_CLEAR` and `EXEC_CHAR`. Every command completes: none traps (R79, R205). -/

namespace Sys2Proof.Machine

/-- `NOP`: `return S` (R170). -/
def execNop (s : State) : Result := .next s

/-- `DIGIT d` (R171). -/
def execDigit (d : SymField) (s : State) : Result :=
  .next (doRender Config.platform s d Config.platform.defaultOnColor)

/-- `PWRON` (R172): always the power-on symbol, nothing is restored. -/
def execPwron (s : State) : Result :=
  .next (doRender Config.platform s Config.powerOnSymbol Config.platform.defaultOnColor)

/-- `PWROFF` (R173). -/
def execPwroff (s : State) : Result := .next (doClear s)

/-- `RENDER s, r, g, b` (R174). -/
def execRender (sym : SymField) (r g b : ChanCode) (s : State) : Result :=
  .next (doRender Config.platform s sym ⟨r, g, b⟩)

/-- `CLEAR` (R176). -/
def execClear (s : State) : Result := .next (doClear s)

/-- `CHAR c` (R175). -/
def execChar (c : Byte) (s : State) : Result := .next (execCharacter Config.platform s c)

/-! ## Reserved operation codes: accepted, no effect (R177, R78) -/

def execReserved7 (s : State) : Result := .next s
def execReserved8 (s : State) : Result := .next s
def execReserved9 (s : State) : Result := .next s
def execReserved10 (s : State) : Result := .next s
def execReserved11 (s : State) : Result := .next s
def execReserved12 (s : State) : Result := .next s
def execReserved13 (s : State) : Result := .next s
def execReserved14 (s : State) : Result := .next s
def execReserved15 (s : State) : Result := .next s

end Sys2Proof.Machine
end

