-- ==== Sys2Proof/Machine/Dispatch.lean ====
section
/-! DEFINITION. exec: one arm per constructor of Instr, each a call of its meaning (spec 43_animation_controller.md R161 for the CW64 rows). -/

namespace Sys2Proof.Machine

def exec (i : Instr) (s : State) : Host.Outcome State Fault Refusal :=
  match i with
  | .nop => Sys2Proof.Machine.execNop s
  | .digit d => Sys2Proof.Machine.execDigit d s
  | .pwron => Sys2Proof.Machine.execPwron s
  | .pwroff => Sys2Proof.Machine.execPwroff s
  | .render sym r g b => Sys2Proof.Machine.execRender sym r g b s
  | .clear => Sys2Proof.Machine.execClear s
  | .char c => Sys2Proof.Machine.execChar c s
  | .reserved7 => Sys2Proof.Machine.execReserved7 s
  | .reserved8 => Sys2Proof.Machine.execReserved8 s
  | .reserved9 => Sys2Proof.Machine.execReserved9 s
  | .reserved10 => Sys2Proof.Machine.execReserved10 s
  | .reserved11 => Sys2Proof.Machine.execReserved11 s
  | .reserved12 => Sys2Proof.Machine.execReserved12 s
  | .reserved13 => Sys2Proof.Machine.execReserved13 s
  | .reserved14 => Sys2Proof.Machine.execReserved14 s
  | .reserved15 => Sys2Proof.Machine.execReserved15 s
  | .charDigit0 => Sys2Proof.Machine.execCharDigit0 s
  | .charDigit1 => Sys2Proof.Machine.execCharDigit1 s
  | .charDigit2 => Sys2Proof.Machine.execCharDigit2 s
  | .charDigit3 => Sys2Proof.Machine.execCharDigit3 s
  | .charDigit4 => Sys2Proof.Machine.execCharDigit4 s
  | .charDigit5 => Sys2Proof.Machine.execCharDigit5 s
  | .charDigit6 => Sys2Proof.Machine.execCharDigit6 s
  | .charDigit7 => Sys2Proof.Machine.execCharDigit7 s
  | .charDigit8 => Sys2Proof.Machine.execCharDigit8 s
  | .charDigit9 => Sys2Proof.Machine.execCharDigit9 s
  | .charUpperL => Sys2Proof.Machine.execCharUpperL s
  | .charLowerL => Sys2Proof.Machine.execCharLowerL s
  | .charUpperD => Sys2Proof.Machine.execCharUpperD s
  | .charLowerD => Sys2Proof.Machine.execCharLowerD s
  | .charOther c => Sys2Proof.Machine.execCharOther c s

end Sys2Proof.Machine
end

