-- ==== Sys2Proof/Machine/Flags.lean ====
section
/-! DEFINITION. The block has no condition codes and no arithmetic flags (10_state.md R33): its only status bits are its outputs, functions of the state alone (R24), given here with the data output `dout` (42_transmission_encoder.md R137) and the observation predicates busy and quiescent (00_scope.md R15, R19). -/

namespace Sys2Proof.Machine

/-- `THIGH(b)`: the high ticks of a bit (R24, R137). -/
def tHigh (b : Bool) : Nat := if b then Config.t1h else Config.t0h

/-- `dout` (R24, R137). -/
def State.dout (s : State) : Bool :=
  match s.st with
  | .shift => decide (s.tcnt.toNat < tHigh s.frameBit)
  | .uninit | .halted | .idle | .gap => false

/-- `cmd_ready` (R24). -/
def State.cmdReady (s : State) : Bool := s.st == .idle

/-- `halted` (R24). -/
def State.isHalted (s : State) : Bool := s.st == .halted

/-- All the outputs of a tick (R24). -/
structure Outputs where
  dout     : Bool
  cmdReady : Bool
  halted   : Bool
  animOn   : Bool
  animSym  : SymField
deriving DecidableEq, Repr

def State.outputs (s : State) : Outputs :=
  { dout := s.dout, cmdReady := s.cmdReady, halted := s.isHalted, animOn := s.animOn, animSym := s.animSym }

/-- Busy: a transmission or its gap is in progress (R15). -/
def State.busy (s : State) : Bool := s.st == .shift || s.st == .gap

/-- A quiescent point (R19). -/
def State.quiescent (s : State) : Bool := s.st == .idle || s.st == .halted

/-- The numeric code of `ST` (R21); it is on no port. -/
def TopState.code : TopState → BitVec 3
  | .uninit => 0
  | .halted => 1
  | .idle => 2
  | .shift => 3
  | .gap => 4

end Sys2Proof.Machine
end

