-- ==== Sys2Proof/Machine/Engine.lean ====
section
/-! DEFINITION. One tick of the block: the cases of `STEP` (42_transmission_encoder.md R131 to R136) and what a tick with a presented command word looks like. -/

namespace Sys2Proof.Machine

open Sys2Proof.Config (Platform Input N)

/-- The initialisation check (R132): a timing channel is there and the pattern rows have N cells. -/
def configGood (p : Platform) (chanOk : Bool) : Bool := chanOk && p.patLen == N

/-- `STEP_UNINIT` (R132). -/
def stepUninit (p : Platform) (chanOk : Bool) (s : State) : State :=
  if configGood p chanOk then s.enterGap else s.halt

/-- `STEP` in `HALTED`: nothing changes (R133). -/
def stepHalted (s : State) : State := s

/-- `STEP_IDLE` (R134): the word is accepted and executed in this tick (`EXEC`, R161). -/
def stepIdle (i : Input) (s : State) : Result :=
  if i.cmdValid then exec (decodeCmd i.cmd) s else .next s

/-- `STEP_SHIFT` (R135). -/
def stepShift (s : State) : State :=
  if s.tcnt.toNat < Config.tBit - 1 then { s with tcnt := s.tcnt + 1 }
  else if 0 < s.biti.toNat then { s with tcnt := 0, biti := s.biti - 1 }
  else if s.cell.toNat < N - 1 then { s with tcnt := 0, biti := 23, cell := s.cell + 1 }
  else State.enterGap { s with tcnt := 0, biti := 23, cell := 0 }

/-- `STEP_GAP` (R136). -/
def stepGap (s : State) : State :=
  if s.gcnt.toNat < Config.tReset - 1 then { s with gcnt := s.gcnt + 1 }
  else { s with gcnt := 0, st := .idle }

/-- `STEP(S, in)` (R131), s being the state whose inputs have moved on: reset first (R208), otherwise the case `ST` selects. -/
def stepWith (i : Input) (s : State) : Result :=
  if i.rst then .next s.toReset
  else match s.st with
    | .uninit => .next (stepUninit Config.platform i.cfgChanOk s)
    | .halted => .next (stepHalted s)
    | .idle => stepIdle i s
    | .shift => .next (stepShift s)
    | .gap => .next (stepGap s)

/-- One tick: the sample of the tick is taken, the inputs move on. -/
def tickOnce (s : State) : Result := stepWith s.input s.elapse

/-- The host presents cw in this tick, with reset low, to a block that is ready; nothing else changes (log entry 12). -/
def State.presentCmd (s : State) (cw : CmdWord) : State :=
  { (s.present { s.input with rst := false, cmdValid := true, cmd := cw }) with st := .idle }

/-- The word the port carries for a table word of nbits bits (log entry 8). -/
def tablePortWord (nbits w : Nat) : CmdWord :=
  match tableEncoded nbits w with
  | some e => portWord e
  | none => BitVec.ofNat 64 w

end Sys2Proof.Machine
end

