-- ==== Sys2Proof/Machine/Step.lean ====
section
/-! DEFINITION. The step of the machine, one tick of the block (spec 00_scope.md R9, 42_transmission_encoder.md R131), and the host's way to put one instruction in front of it. -/

namespace Sys2Proof.Machine

/-- `S(t+1) = STEP(S(t), in(t))`. -/
def step (s : State) : Host.Outcome State Fault Refusal := tickOnce s

/-- The state in which the very next step accepts and runs the instruction of a table word (log entry 12). -/
def State.withFetchWord (s : State) (nbits w : Nat) : State := s.presentCmd (tablePortWord nbits w)

end Sys2Proof.Machine
end

