-- ==== Sys2Proof/Machine/HostProgram.lean ====
section
/-! DEFINITION. The host agent of 00_scope.md R16 as a test program drives it (30_encoding.md R82): a closed loop on `cmd_ready`. It is outside the block and no part of State; a run of it fills this tick's input sample. -/

namespace Sys2Proof.Machine

open Sys2Proof.Config (Input)

/-- What one line makes the host do (R82). -/
inductive HostLine where
  /-- present the word until the tick in which `cmd_ready = 1` -/
  | command (cw : CmdWord)
  /-- `WAIT n`: `cmd_valid = 0` for n ticks -/
  | wait (n : Nat)
  /-- `RESET`: `rst = 1` for one tick -/
  | reset
deriving DecidableEq, Repr

/-- The host with nothing to present: the word on the wires is read by nothing (log entry 19). -/
def quietInput (chanOk : Bool) : Input := { rst := false, cfgChanOk := chanOk, cmdValid := false, cmd := 0 }

/-- The sample of a tick and what is left of the program, from the program, the strap and `cmd_ready`. -/
def hostDrive (chanOk ready : Bool) : List HostLine → Input × List HostLine
  | [] => (quietInput chanOk, [])
  | .command cw :: p =>
    ({ quietInput chanOk with cmdValid := true, cmd := cw }, if ready then p else .command cw :: p)
  | .wait 0 :: p => hostDrive chanOk ready p
  | .wait (n + 1) :: p => (quietInput chanOk, .wait n :: p)
  | .reset :: p => ({ quietInput chanOk with rst := true }, p)

/-- k ticks of the host and the block together; the host takes a command to be accepted when the block is ready and not in reset. -/
def hostRun (chanOk : Bool) : Nat → List HostLine → State → Result
  | 0, _, s => .next s
  | k + 1, p, s =>
    match step (s.present (hostDrive chanOk s.cmdReady p).1) with
    | .next u => hostRun chanOk k (hostDrive chanOk s.cmdReady p).2 u
    | .fault r => .fault r
    | .refused r => .refused r

end Sys2Proof.Machine
end

