-- ==== Sys2Proof/Machine/Assembler.lean ====
section
/-! DEFINITION. The command notation of 30_encoding.md R81 and R82: the forms of a line, the word each assembles to, and the reading of a line's characters. Only test programs use it. -/

namespace Sys2Proof.Machine

/-! ## Lines and their words -/

/-- A channel operand (R81). -/
inductive ChanLit where
  /-- an integer code, hexadecimal or signed decimal -/
  | code (v : Int)
  /-- a real literal: n / 10 ^ k -/
  | real (n : Int) (k : Nat)
deriving DecidableEq, Repr

/-- The code of a channel operand: a real denotes `floor(real * 256 + 1/2)`; both are reduced to 16 bits two's complement (R81). -/
def ChanLit.chanCode : ChanLit → ChanCode
  | .code v => BitVec.ofInt 16 v
  | .real n k => BitVec.ofInt 16 (Int.fdiv (n * 512 + 10 ^ k) (2 * 10 ^ k))

/-- A line of a test program (R81, R82). -/
inductive AsmLine where
  | nop
  | digit (d : SymField)
  | pwron
  | pwroff
  | render (s : SymField) (r g b : ChanLit)
  | clear
  | char (c : Byte)
  /-- pseudo-command `ON` -/
  | on
  /-- pseudo-command `OFF` -/
  | off
  /-- directive `WAIT n` -/
  | wait (n : Nat)
  /-- directive `RESET` -/
  | reset
deriving DecidableEq, Repr

/-- What a line makes the host do: a command is the `CW64` word with the named fields set and every other field zero (R81); `ON` is `PWRON`, `OFF` is `PWROFF` (R82). -/
def AsmLine.assemble : AsmLine → HostLine
  | .nop => .command (packCmd 0 0 0 0 0 0)
  | .digit d => .command (packCmd 1 d 0 0 0 0)
  | .pwron | .on => .command (packCmd 2 0 0 0 0 0)
  | .pwroff | .off => .command (packCmd 3 0 0 0 0 0)
  | .render s r g b => .command (packCmd 4 s 0 r.chanCode g.chanCode b.chanCode)
  | .clear => .command (packCmd 5 0 0 0 0 0)
  | .char c => .command (packCmd 6 0 c 0 0 0)
  | .wait n => .wait n
  | .reset => .reset

/-! ## Reading the characters of a line -/

/-- A decimal digit's value. -/
def decDigit (c : Char) : Option Nat :=
  if 48 ≤ c.toNat ∧ c.toNat ≤ 57 then some (c.toNat - 48) else none

/-- A hexadecimal digit's value. -/
def hexDigit (c : Char) : Option Nat :=
  if 48 ≤ c.toNat ∧ c.toNat ≤ 57 then some (c.toNat - 48)
  else if 65 ≤ c.toNat ∧ c.toNat ≤ 70 then some (c.toNat - 55)
  else if 97 ≤ c.toNat ∧ c.toNat ≤ 102 then some (c.toNat - 87)
  else none

/-- The digits of a number read in a base, after the value so far. -/
def readDigits (base : Nat) (digit : Char → Option Nat) : Nat → List Char → Option Nat
  | v, [] => some v
  | v, c :: cs =>
    match digit c with
    | some d => readDigits base digit (v * base + d) cs
    | none => none

/-- A number with at least one digit. -/
def readNat (base : Nat) (digit : Char → Option Nat) (cs : List Char) : Option Nat :=
  if cs = [] then none else readDigits base digit 0 cs

/-- A code or a count: `0x...` is hexadecimal, otherwise decimal (R8). -/
def readCode : List Char → Option Nat
  | '0' :: 'x' :: cs => readNat 16 hexDigit cs
  | cs => readNat 10 decDigit cs

/-- An unsigned number below a bound; a larger one is rejected (log entry 18). -/
def readBelow (bound : Nat) (read : List Char → Option Nat) (cs : List Char) : Option Nat :=
  match read cs with
  | some v => if v < bound then some v else none
  | none => none

/-- A symbol or digit operand: decimal 0..15. -/
def readSym (cs : List Char) : Option SymField :=
  (readBelow 16 (readNat 10 decDigit) cs).map (BitVec.ofNat 4)

/-- A character operand: quoted, or a code. The code of a quoted character is its code point: ASCII for the characters R74 names (log entry 11); DESIGN CHOICE (log entry 22) for any other: R81 gives no code, one above 255 is rejected. -/
def readChar : List Char → Option Byte
  | ['\'', c, '\''] => if c.toNat < 256 then some (BitVec.ofNat 8 c.toNat) else none
  | cs => (readBelow 256 readCode cs).map (BitVec.ofNat 8)

/-- An unsigned decimal number: with a decimal point a real of any size, without one a code below a bound. -/
def readUnsigned (bound : Nat) (cs : List Char) : Option ChanLit :=
  if cs.contains '.' then
    let whole := cs.takeWhile (· ≠ '.')
    let part := (cs.dropWhile (· ≠ '.')).drop 1
    match readNat 10 decDigit (whole ++ part) with
    | some v => some (.real v part.length)
    | none => none
  else (readBelow bound (readNat 10 decDigit) cs).map fun v => .code v

/-- The same number with its sign changed. -/
def ChanLit.negate : ChanLit → ChanLit
  | .code v => .code (-v)
  | .real n k => .real (-n) k

/-- A channel operand: `0x` and up to 16 bits, or a signed decimal or real. DESIGN CHOICE (log entry 18): the decimal codes are those of 16 bits, -32768 to 32767, and leading zeros change nothing. -/
def readChan : List Char → Option ChanLit
  | '0' :: 'x' :: cs => (readBelow 65536 (readNat 16 hexDigit) cs).map fun v => .code v
  | '-' :: cs => (readUnsigned 32769 cs).map ChanLit.negate
  | cs => readUnsigned 32768 cs

def isBlank (c : Char) : Bool := c == ' ' || c == '\t'

/-- Blanks at both ends dropped. -/
def trimBlanks (cs : List Char) : List Char := ((cs.dropWhile isBlank).reverse.dropWhile isBlank).reverse

/-- The operands between commas, blanks dropped; the first argument holds the operand under way. DESIGN CHOICE (log entry 18): a comma inside quotes is the character, as a `;` is. -/
def splitCommas : List Char → List Char → List (List Char)
  | cur, [] => [trimBlanks cur]
  | cur, '\'' :: c :: '\'' :: cs => splitCommas (cur ++ ['\'', c, '\'']) cs
  | cur, c :: cs => if c = ',' then trimBlanks cur :: splitCommas [] cs else splitCommas (cur ++ [c]) cs

/-- The operands after the mnemonic; none where there is nothing. -/
def readOperands (cs : List Char) : List (List Char) := if trimBlanks cs = [] then [] else splitCommas [] cs

/-- Why a line has no meaning. -/
inductive AsmError where
  /-- no such mnemonic (R81: upper case) -/
  | noSuchMnemonic
  /-- an operand that does not have its form, or the wrong number of operands -/
  | badOperands
deriving DecidableEq, Repr

def optLine (o : Option AsmLine) : Except AsmError AsmLine :=
  match o with
  | some l => .ok l
  | none => .error .badOperands

/-- A `RENDER` line from its four operands. -/
def readRender (s r g b : List Char) : Option AsmLine :=
  match readSym s, readChan r, readChan g, readChan b with
  | some s', some r', some g', some b' => some (.render s' r' g' b')
  | _, _, _, _ => none

/-- A line from its mnemonic and operands (the forms of R81 and R82). DESIGN CHOICE (log entry 18): the n of `WAIT n` is a number as R8 writes one, `0x` and hexadecimal digits or decimal digits, of any size. -/
def readForm (m : List Char) (ops : List (List Char)) : Except AsmError AsmLine :=
  if m = ['N', 'O', 'P'] then optLine (if ops = [] then some .nop else none)
  else if m = ['D', 'I', 'G', 'I', 'T'] then
    optLine (match ops with | [d] => (readSym d).map .digit | _ => none)
  else if m = ['P', 'W', 'R', 'O', 'N'] then optLine (if ops = [] then some .pwron else none)
  else if m = ['P', 'W', 'R', 'O', 'F', 'F'] then optLine (if ops = [] then some .pwroff else none)
  else if m = ['R', 'E', 'N', 'D', 'E', 'R'] then
    optLine (match ops with | [s, r, g, b] => readRender s r g b | _ => none)
  else if m = ['C', 'L', 'E', 'A', 'R'] then optLine (if ops = [] then some .clear else none)
  else if m = ['C', 'H', 'A', 'R'] then
    optLine (match ops with | [c] => (readChar c).map .char | _ => none)
  else if m = ['O', 'N'] then optLine (if ops = [] then some .on else none)
  else if m = ['O', 'F', 'F'] then optLine (if ops = [] then some .off else none)
  else if m = ['W', 'A', 'I', 'T'] then
    optLine (match ops with | [n] => (readCode n).map .wait | _ => none)
  else if m = ['R', 'E', 'S', 'E', 'T'] then optLine (if ops = [] then some .reset else none)
  else .error .noSuchMnemonic

/-- What stands before a comment: `;` starts one (R81), but DESIGN CHOICE (log entry 18): not inside quotes. -/
def dropComment : List Char → List Char
  | [] => []
  | '\'' :: c :: '\'' :: cs => '\'' :: c :: '\'' :: dropComment cs
  | c :: cs => if c = ';' then [] else c :: dropComment cs

/-- One line: nothing (a blank or comment line), a line, or an error by name. -/
def readLine (cs : List Char) : Except AsmError (Option AsmLine) :=
  let body := trimBlanks (dropComment cs)
  if body = [] then .ok none
  else
    match readForm (body.takeWhile (!isBlank ·)) (readOperands (body.dropWhile (!isBlank ·))) with
    | .ok l => .ok (some l)
    | .error e => .error e

end Sys2Proof.Machine
end

