-- ==== Sys2Proof/Machine/Build.lean ====
section
/-! DEFINITION. Machines built from a parameter set (00_scope.md R7): a set that is not well formed is refused, and a set whose `PAT_LEN` differs from `N` builds a machine that halts at initialisation. The rules with the parameters as arguments (R6, R17, R18): `STEP` of 42_transmission_encoder.md R131 to R137, `EXEC` and its operations of 43_animation_controller.md R161 to R164, R175. The machine of this hardware is the one of `Config.paramSet` (Obligations.BuiltMachineIsTheModel). -/

namespace Sys2Proof.Machine

open Sys2Proof.Config (ParamSet Input)

/-- The registers of R20 for a frame of n words. R20 sizes `CELL`, `TCNT` and `GCNT` for the parameters, and no counter ever wraps (41_color_model.md R120), so they are numbers here (log entry 21). -/
structure BuiltState (n : Nat) where
  st      : TopState
  animOn  : Bool
  animSym : SymField
  animR   : ChanCode
  animG   : ChanCode
  animB   : ChanCode
  frame   : Vector ColorWord n
  cell    : Nat
  biti    : Nat
  tcnt    : Nat
  gcnt    : Nat
  /-- The model's own, as in State (log entry 1). -/
  inputs  : List Input
  /-- The model's own, as in State (log entry 1). -/
  tick    : Nat
deriving DecidableEq, Repr

/-- What one tick of a built machine answers. -/
abbrev BuiltResult (n : Nat) := Host.Outcome (BuiltState n) Fault Refusal

/-- The reset values of R35, with the parameters' own frame size. -/
def BuiltState.reset (n : Nat) : BuiltState n :=
  { st := .uninit
    animOn := false
    animSym := 0
    animR := 0
    animG := 0
    animB := 0
    frame := Vector.replicate n 0
    cell := 0
    biti := 23
    tcnt := 0
    gcnt := 0
    inputs := []
    tick := 0 }

/-! ## Operations (Machine/Ops.lean with the parameters as arguments) -/

def BuiltState.inputAt {n : Nat} (s : BuiltState n) (k : Nat) : Input := sampleAt s.inputs s.tick k
def BuiltState.input {n : Nat} (s : BuiltState n) : Input := s.inputAt 0
def BuiltState.elapse {n : Nat} (s : BuiltState n) : BuiltState n := { s with inputs := s.inputs.tail, tick := s.tick + 1 }
/-- A tick with `rst = 1` (R230). -/
def BuiltState.toReset {n : Nat} (s : BuiltState n) : BuiltState n :=
  { BuiltState.reset n with inputs := s.inputs, tick := s.tick }
/-- Entering `HALTED` (R201). -/
def BuiltState.halt {n : Nat} (s : BuiltState n) : BuiltState n := { s with st := .halted }
/-- Entering `GAP` (R132, R135). -/
def BuiltState.enterGap {n : Nat} (s : BuiltState n) : BuiltState n := { s with st := .gap, gcnt := 0 }
/-- `START_TX` (R164). -/
def BuiltState.startTx {n : Nat} (s : BuiltState n) : BuiltState n := { s with st := .shift, cell := 0, biti := 23, tcnt := 0 }
/-- The Animation State and `FRAME`, written together (R23, R56). -/
def BuiltState.setGrid {n : Nat} (s : BuiltState n) (on : Bool) (sym : SymField) (c : Color) (f : Vector ColorWord n) :
    BuiltState n :=
  { s with animOn := on, animSym := sym, animR := c.r, animG := c.g, animB := c.b, frame := f }

/-- `DO_RENDER` (R162). -/
def builtRender (p : ParamSet) (s : BuiltState p.n) (sym : SymField) (c : Color) : BuiltState p.n :=
  match selectSymbol sym with
  | none => s
  | some k => (s.setGrid true sym c (frameBy p.n p.platform k (toWordBy p.gammaLut c))).startTx

/-- `DO_CLEAR` (R163). -/
def builtClear {n : Nat} (s : BuiltState n) : BuiltState n :=
  (s.setGrid false 0 ⟨0, 0, 0⟩ (Vector.replicate n 0)).startTx

/-- `EXEC_CHAR` (R175). -/
def builtCharacter (p : ParamSet) (s : BuiltState p.n) (c : Byte) : BuiltState p.n :=
  if 0x30 ≤ c.toNat ∧ c.toNat ≤ 0x39 then builtRender p s (BitVec.ofNat 4 (c.toNat - 0x30)) p.platform.defaultOnColor
  else if c = 0x4C ∨ c = 0x6C then builtRender p s p.powerOnSymbol p.platform.defaultOnColor
  else if c = 0x44 ∨ c = 0x64 then builtClear s
  else s

/-- `EXEC(S, cw)`, case by case of its pseudocode (R161). -/
def builtExec (p : ParamSet) (cw : CmdWord) (s : BuiltState p.n) : BuiltState p.n :=
  match (opOf cw).toNat with
  | 1 => builtRender p s (symOf cw) p.platform.defaultOnColor
  | 2 => builtRender p s p.powerOnSymbol p.platform.defaultOnColor
  | 3 => builtClear s
  | 4 => builtRender p s (symOf cw) ⟨rOf cw, gOf cw, bOf cw⟩
  | 5 => builtClear s
  | 6 => builtCharacter p s (chrOf cw)
  | _ => s

/-! ## One tick -/

/-- The initialisation check (R132): it compares `PAT_LEN` with the set's own `N`. -/
def builtGood (p : ParamSet) (chanOk : Bool) : Bool := chanOk && p.platform.patLen == p.n

/-- `STEP_UNINIT` (R132). -/
def builtUninit (p : ParamSet) (chanOk : Bool) (s : BuiltState p.n) : BuiltState p.n :=
  if builtGood p chanOk then s.enterGap else s.halt

/-- `STEP_SHIFT` (R135). -/
def builtShift (p : ParamSet) (s : BuiltState p.n) : BuiltState p.n :=
  if s.tcnt < p.tBit - 1 then { s with tcnt := s.tcnt + 1 }
  else if 0 < s.biti then { s with tcnt := 0, biti := s.biti - 1 }
  else if s.cell < p.n - 1 then { s with tcnt := 0, biti := 23, cell := s.cell + 1 }
  else BuiltState.enterGap { s with tcnt := 0, biti := 23, cell := 0 }

/-- `STEP_GAP` (R136). -/
def builtGap (p : ParamSet) (s : BuiltState p.n) : BuiltState p.n :=
  if s.gcnt < p.tReset - 1 then { s with gcnt := s.gcnt + 1 }
  else { s with gcnt := 0, st := .idle }

/-- The next state, s being the state whose inputs have moved on (R131). -/
def builtNext (p : ParamSet) (i : Input) (s : BuiltState p.n) : BuiltState p.n :=
  if i.rst then s.toReset
  else match s.st with
    | .uninit => builtUninit p i.cfgChanOk s
    | .halted => s
    | .idle => if i.cmdValid then builtExec p i.cmd s else s
    | .shift => builtShift p s
    | .gap => builtGap p s

/-- `STEP` of the machine of a parameter set (R131). -/
def builtStep (p : ParamSet) (s : BuiltState p.n) : BuiltResult p.n := .next (builtNext p s.input s.elapse)

/-! ## Outputs (R24) -/

/-- `FRAME[CELL][BITI]`; free outside the frame store (log entry 10). -/
def BuiltState.frameBit {n : Nat} (s : BuiltState n) : Bool :=
  if h : s.cell < n ∧ s.biti < 24 then (s.frame[s.cell]'h.1).getLsbD s.biti
  else Config.strayFrameBit s.cell s.biti

/-- `dout` (R24, R137). -/
def builtDout (p : ParamSet) (s : BuiltState p.n) : Bool :=
  match s.st with
  | .shift => decide (s.tcnt < if s.frameBit then p.t1h else p.t0h)
  | .uninit | .halted | .idle | .gap => false

/-- All the outputs of a tick. -/
def builtOutputs (p : ParamSet) (s : BuiltState p.n) : Outputs :=
  { dout := builtDout p s, cmdReady := s.st == .idle, halted := s.st == .halted, animOn := s.animOn, animSym := s.animSym }

/-! ## Building -/

/-- The machine of a parameter set. -/
def builtCore (p : ParamSet) : Host.Core :=
  { State := BuiltState p.n, Fault := Fault, Refusal := Refusal, step := builtStep p, reset := BuiltState.reset p.n }

/-- Why no machine is built. -/
inductive BuildError where
  /-- the set is not well formed (R7) -/
  | notWellFormed
  /-- the set changes a format size, for which no rule is written (log entry 21); safe -/
  | otherFormats
deriving DecidableEq, Repr

/-- R7: a machine is built from a well-formed set only. `PAT_LEN` is not looked at here: a mismatch builds. -/
def build (p : ParamSet) : Except BuildError Host.Core :=
  if p.wf then if p.formats then .ok (builtCore p) else .error .otherFormats
  else .error .notWellFormed

/-- The registers of a state of this hardware, read as the machine of its parameter set holds them. -/
def State.built (s : State) : BuiltState Config.paramSet.n :=
  { st := s.st
    animOn := s.animOn
    animSym := s.animSym
    animR := s.animR
    animG := s.animG
    animB := s.animB
    frame := s.frame
    cell := s.cell.toNat
    biti := s.biti.toNat
    tcnt := s.tcnt.toNat
    gcnt := s.gcnt.toNat
    inputs := s.inputs
    tick := s.tick }

end Sys2Proof.Machine
end

