-- ==== Sys2Proof/Machine/Events.lean ====
section
/-! DEFINITION. The event log of 00_scope.md R11: no hardware state and no part of State, computed from the states a run goes through, for this hardware and for the machine of any parameter set by the same rules. -/

namespace Sys2Proof.Machine

open Sys2Proof.Config (N Input ParamSet)

/-- The events of a machine with frames of n words (R11). -/
inductive EventOf (n : Nat) where
  /-- `Accept(t, cw)` -/
  | accept (t : Nat) (cw : CmdWord)
  /-- `Transmit(t, frame)` -/
  | transmit (t : Nat) (f : Vector ColorWord n)
  /-- `Done(t)` -/
  | done (t : Nat)
  /-- `Halt(t)` -/
  | halt (t : Nat)
deriving DecidableEq, Repr

/-- The events of this hardware. -/
abbrev Event := EventOf N

/-! ## The rules of the log, for frames of any size -/

/-- An accept tick, from `ST` and `FRAME` after it: a frame is handed to the encoder exactly when the command leaves the block in `SHIFT` (R164: the only entry). -/
def acceptedEvents {n : Nat} (t : Nat) (cw : CmdWord) (after : TopState) (f : Vector ColorWord n) : List (EventOf n) :=
  if after = .shift then [.accept t cw, .transmit t f] else [.accept t cw]

/-- What tick t logs, case by case of `ST`: good is the outcome of the initialisation check, counting says that the gap has ticks to come, accepted is what an acceptance logs. inTx says that the `SHIFT` or `GAP` the block is in belongs to a transmission: the gap after initialisation logs no `Done` (42_transmission_encoder.md R132 to R136). -/
def eventsOf {n : Nat} (inTx : Bool) (t : Nat) (i : Input) (st : TopState) (good counting : Bool)
    (accepted : List (EventOf n)) : List (EventOf n) :=
  if i.rst then []
  else match st with
    | .uninit => if good then [] else [.halt t]
    | .halted => []
    | .idle => if i.cmdValid then accepted else []
    | .shift => []
    | .gap => if inTx && !counting then [.done (t + 1)] else []

/-- Whether the coming `SHIFT` or `GAP` belongs to a transmission, from `ST` before and after the tick: one starts it, reset and its end stop it. -/
def burstGoesOn (inTx : Bool) (before after : TopState) : Bool :=
  match after with
  | .shift => true
  | .gap => before == .shift || (inTx && before == .gap)
  | .uninit | .halted | .idle => false

/-! ## The log of this hardware -/

/-- What an accept tick logs. -/
def acceptEvents (t : Nat) (cw : CmdWord) : Result → List Event
  | .next u => acceptedEvents t cw u.st u.frame
  | .fault _ | .refused _ => [.accept t cw]

/-- What tick t logs. -/
def tickEvents (inTx : Bool) (t : Nat) (s : State) : List Event :=
  eventsOf inTx t s.input s.st (configGood Config.platform s.input.cfgChanOk)
    (decide (s.gcnt.toNat < Config.tReset - 1)) (acceptEvents t s.input.cmd (step s))

/-- The log's Bool after a tick that answers the given result. -/
def nextInTx (inTx : Bool) (s : State) : Result → Bool
  | .next u => burstGoesOn inTx s.st u.st
  | .fault _ | .refused _ => false

/-- The log of k ticks from tick t on. -/
def eventLog (inTx : Bool) (t : Nat) : Nat → State → List Event
  | 0, _ => []
  | k + 1, s =>
    tickEvents inTx t s ++
      match step s with
      | .next u => eventLog (nextInTx inTx s (.next u)) (t + 1) k u
      | .fault _ | .refused _ => []

/-- How many frames a log transmits. -/
def transmitCount : List Event → Nat
  | [] => 0
  | .transmit _ _ :: es => transmitCount es + 1
  | .accept _ _ :: es | .done _ :: es | .halt _ :: es => transmitCount es

/-! ## The log of the machine of a parameter set -/

/-- What tick t logs; the check is that of the set's own `PAT_LEN` and `N` (R132, R201). -/
def builtTickEvents (p : ParamSet) (inTx : Bool) (t : Nat) (s : BuiltState p.n) : List (EventOf p.n) :=
  eventsOf inTx t s.input s.st (builtGood p s.input.cfgChanOk) (decide (s.gcnt < p.tReset - 1))
    (acceptedEvents t s.input.cmd (builtNext p s.input s.elapse).st (builtNext p s.input s.elapse).frame)

/-- The log of k ticks from tick t on. -/
def builtEventLog (p : ParamSet) (inTx : Bool) (t : Nat) : Nat → BuiltState p.n → List (EventOf p.n)
  | 0, _ => []
  | k + 1, s =>
    builtTickEvents p inTx t s ++
      builtEventLog p (burstGoesOn inTx s.st (builtNext p s.input s.elapse).st) (t + 1) k (builtNext p s.input s.elapse)

end Sys2Proof.Machine
end

