-- ==== Sys2Proof/Machine/Wave.lean ====
section
/-! DEFINITION. The waveforms of 42_transmission_encoder.md: `PULSE` (R138), `WAVE` and its closed form (R139), the position inside a burst (R139), and the reference decoder `DECODE` (R150), a test oracle and no hardware. -/

namespace Sys2Proof.Machine

open Sys2Proof.Config (N)

/-- `THIGH`'s counterpart: the low ticks of a bit (R138). -/
def tLow (b : Bool) : Nat := if b then Config.t1l else Config.t0l

/-- `PULSE(b)` (R138, 30_encoding.md R76). -/
def pulse (b : Bool) : List Bool := List.replicate (tHigh b) true ++ List.replicate (tLow b) false

/-- The 24 pulses of a colour word, bit 23 first (R139, 20_memory.md R53). -/
def wordWave (w : ColorWord) : List Bool := (List.range 24).flatMap fun q => pulse (w.getLsbD (23 - q))

/-- The burst of a frame: cell 0 first (30_encoding.md R77). -/
def burstWave (f : Frame) : List Bool := f.toList.flatMap wordWave

/-- `WAVE(F)` (R139). -/
def wave (f : Frame) : List Bool := burstWave f ++ List.replicate Config.tReset false

/-- Bit q of cell c of a frame in wire order, bit 23 being q = 0; a cell the frame does not have has none. -/
def wireBit (f : Frame) (c q : Nat) : Bool :=
  match f[c]? with
  | some w => w.getLsbD (23 - q)
  | none => false

/-- The closed form of `WAVE(F)[j]` (R139). -/
def waveAt (f : Frame) (j : Nat) : Bool :=
  if j < Config.burstTicks then
    decide (j % Config.tBit < tHigh (wireBit f (j / (24 * Config.tBit)) (j % (24 * Config.tBit) / Config.tBit)))
  else false

/-- The position `(CELL, BITI, TCNT)` at offset j into a burst (R139). -/
def burstPosition (j : Nat) : Nat × Nat × Nat :=
  (j / (24 * Config.tBit), 23 - j % (24 * Config.tBit) / Config.tBit, j % Config.tBit)

/-! ## The reference decoder (R150) -/

/-- A run of h high ticks is a 1 if it is longer than the midpoint. -/
def runBit (h : Nat) : Bool := decide (Config.t0h + Config.t1h < 2 * h)

/-- The bit of a run of h high ticks that has ended; no high tick is no run. -/
def endRun (h : Nat) : List Bool := if h = 0 then [] else [runBit h]

/-- One bit a maximal run of high ticks; `T_RESET` low ticks in a row end the frame. The first two arguments count the high and the low ticks of the run under way. -/
def waveBits : Nat → Nat → List Bool → List Bool
  | h, _, [] => endRun h
  | h, _, true :: w => waveBits (h + 1) 0 w
  | h, l, false :: w =>
    endRun h ++ (if Config.tReset ≤ l + 1 then [] else waveBits 0 (l + 1) w)

/-- A colour word from its 24 bits, the first being bit 23. -/
def wordOfBits (bs : List Bool) : ColorWord := bs.foldl (fun w b => w.shiftConcat b) 0

/-- The bits in groups of 24; the first argument holds the group under way, and an unfinished last group gives no word (log entry 17). -/
def groupWords : List Bool → List Bool → List ColorWord
  | _, [] => []
  | g, b :: bs =>
    if g.length = 23 then wordOfBits (g ++ [b]) :: groupWords [] bs else groupWords (g ++ [b]) bs

/-- `DECODE(w)` (R150). -/
def decodeWave (w : List Bool) : List ColorWord := groupWords [] (waveBits 0 0 w)

/-- The 1 bits of a colour word. -/
def oneBits (w : ColorWord) : Nat := ((List.range 24).filter fun i => w.getLsbD i).length

/-- The 1 bits of a frame (R140). -/
def frameOneBits (f : Frame) : Nat := (f.toList.map oneBits).sum

end Sys2Proof.Machine
end

