-- ==== Sys2Proof/Safety.lean ====
section
/-! DEFINITION. What a good state and a good run are: the invariant of 10_state.md R32, and runs without reset (42_transmission_encoder.md R141). -/

namespace Sys2Proof.Safety

open Sys2Proof.Machine
open Sys2Proof.Config (Platform N)

/-- R32, clause by clause; (a) is the type of `ST`. -/
structure Inv (s : State) : Prop where
  /-- (b) outside `SHIFT` the position is at rest -/
  rest : s.st ≠ .shift → s.cell = 0 ∧ s.biti = 23 ∧ s.tcnt = 0
  /-- (b) in `SHIFT` the position is inside the frame -/
  position : s.st = .shift → s.cell.toNat ≤ N - 1 ∧ s.biti.toNat ≤ 23 ∧ s.tcnt.toNat ≤ Config.tBit - 1
  /-- (c) outside `GAP` the gap counter is 0 -/
  gapRest : s.st ≠ .gap → s.gcnt = 0
  /-- (c) in `GAP` it is inside the gap -/
  gapCount : s.st = .gap → s.gcnt.toNat ≤ Config.tReset - 1
  /-- (d) canonical Off -/
  off : s.animOn = false →
    s.animSym = 0 ∧ s.animR = 0 ∧ s.animG = 0 ∧ s.animB = 0 ∧ ∀ i : Fin N, s.frame[i] = 0
  /-- (e) On: the frame is the one of the symbol and the colour -/
  on : s.animOn = true → ∃ h : s.animSym.toNat < 10, ∀ i : Fin N,
    s.frame[i] = if Config.pat ⟨s.animSym.toNat, h⟩ i then toWord ⟨s.animR, s.animG, s.animB⟩ else 0
  /-- (f) before initialisation and after a configuration failure the state is Off -/
  unstarted : s.st = .uninit ∨ s.st = .halted → s.animOn = false

/-- R183's list: the instructions whose acceptance starts a transmission. -/
def transmits : Instr → Bool
  | .nop => false
  | .digit d => decide (d.toNat ≤ 9)
  | .pwron | .pwroff => true
  | .render s _ _ _ => decide (s.toNat ≤ 9)
  | .clear => true
  | .char c => selectingCodes.contains c
  | .reserved7 | .reserved8 | .reserved9 | .reserved10 | .reserved11 | .reserved12 | .reserved13
  | .reserved14 | .reserved15 => false
  | .charDigit0 | .charDigit1 | .charDigit2 | .charDigit3 | .charDigit4 | .charDigit5 | .charDigit6
  | .charDigit7 | .charDigit8 | .charDigit9 => true
  | .charUpperL | .charLowerL | .charUpperD | .charLowerD => true
  | .charOther _ => false

/-- The host keeps `rst` low in the next n ticks. -/
def noReset (s : State) (n : Nat) : Prop := ∀ k, k < n → (s.inputAt k).rst = false

/-- k steps from s lead to t, with no fault and no refusal on the way. -/
def reaches (k : Nat) (s t : State) : Prop := Sys2Proof.core.run k s = .next t

/-- The registers of R20 are the same; the inputs to come may differ. -/
def sameRegisters (s t : State) : Prop := { t with inputs := s.inputs, tick := s.tick } = s

/-- s with the inputs of one tick gone by, no register changed. -/
def nextTick (s : State) : State := { s with inputs := s.inputs.tail, tick := s.tick + 1 }

/-- Everything R162 says of a render of symbol k in colour c that takes s to t, and that nothing else changes. -/
structure Rendered (s t : State) (k : Symbol) (c : Color) : Prop where
  animOn  : t.animOn = true
  animSym : t.animSym.toNat = k.val
  animR   : t.animR = c.r
  animG   : t.animG = c.g
  animB   : t.animB = c.b
  lit     : ∀ i : Fin N, Config.pat k i = true → t.frame[i] = toWord c
  unlit   : ∀ i : Fin N, Config.pat k i = false → t.frame[i] = 0
  started : t.st = .shift ∧ t.cell = 0 ∧ t.biti = 23 ∧ t.tcnt = 0
  others  : t.gcnt = s.gcnt ∧ t.inputs = s.inputs ∧ t.tick = s.tick

/-- Everything R163 says of a clear that takes s to t, and that nothing else changes. -/
structure Cleared (s t : State) : Prop where
  animOn  : t.animOn = false
  animSym : t.animSym = 0
  animR   : t.animR = 0
  animG   : t.animG = 0
  animB   : t.animB = 0
  dark    : ∀ i : Fin N, t.frame[i] = 0
  started : t.st = .shift ∧ t.cell = 0 ∧ t.biti = 23 ∧ t.tcnt = 0
  others  : t.gcnt = s.gcnt ∧ t.inputs = s.inputs ∧ t.tick = s.tick

end Sys2Proof.Safety
end

