-- ==== Sys2Proof/Certificates/Slice0/Obligations.lean ====
section
/-! DEFINITION. The statements for the provers, each from a numbered rule of spec/ or derived from its sections. -/

open Sys2Proof Sys2Proof.Machine Sys2Proof.Safety
open Sys2Proof.Config (Platform Input N)

/-! ## Encodings -/

/-- Every well-formed instruction is what its own word decodes to, with every operand at every value (30_encoding.md R72, R74). -/
def Obligations.DecodeEncodeRoundTrip : Prop := ∀ i : Instr, i.wf = true → decode (encode i) = i

/-- R70: the six fields of a command word are at the bits the table gives, and there are no other bits. -/
def Obligations.CommandWordFields : Prop :=
  ∀ cw : CmdWord,
    (opOf cw).toNat = cw.toNat / 2 ^ 60 ∧
    (symOf cw).toNat = cw.toNat / 2 ^ 56 % 2 ^ 4 ∧
    (chrOf cw).toNat = cw.toNat / 2 ^ 48 % 2 ^ 8 ∧
    (rOf cw).toNat = cw.toNat / 2 ^ 32 % 2 ^ 16 ∧
    (gOf cw).toNat = cw.toNat / 2 ^ 16 % 2 ^ 16 ∧
    (bOf cw).toNat = cw.toNat % 2 ^ 16 ∧
    packCmd (opOf cw) (symOf cw) (chrOf cw) (rOf cw) (gOf cw) (bOf cw) = cw

/-- R72: `OP` alone selects the operation, whatever the other fields hold; it is what the mask 0xF000000000000000 leaves of a word, and a row's match is its code shifted by 60. -/
def Obligations.OpcodeSelectsOperation : Prop :=
  (∀ cw : CmdWord, cw &&& 0xF000000000000000#64 = (opOf cw).setWidth 64 <<< 60) ∧
  ∀ (sym : SymField) (chr : Byte) (r g b : ChanCode),
    decodeCmd (packCmd 0 sym chr r g b) = .nop ∧
    decodeCmd (packCmd 1 sym chr r g b) = .digit sym ∧
    decodeCmd (packCmd 2 sym chr r g b) = .pwron ∧
    decodeCmd (packCmd 3 sym chr r g b) = .pwroff ∧
    decodeCmd (packCmd 4 sym chr r g b) = .render sym r g b ∧
    decodeCmd (packCmd 5 sym chr r g b) = .clear ∧
    decodeCmd (packCmd 6 sym chr r g b) = .char chr ∧
    decodeCmd (packCmd 7 sym chr r g b) = .reserved7 ∧
    decodeCmd (packCmd 8 sym chr r g b) = .reserved8 ∧
    decodeCmd (packCmd 9 sym chr r g b) = .reserved9 ∧
    decodeCmd (packCmd 10 sym chr r g b) = .reserved10 ∧
    decodeCmd (packCmd 11 sym chr r g b) = .reserved11 ∧
    decodeCmd (packCmd 12 sym chr r g b) = .reserved12 ∧
    decodeCmd (packCmd 13 sym chr r g b) = .reserved13 ∧
    decodeCmd (packCmd 14 sym chr r g b) = .reserved14 ∧
    decodeCmd (packCmd 15 sym chr r g b) = .reserved15

/-- The character table of R74: 14 codes have a row, every other code has the default row. The codes are ASCII, which the spec supplies from general knowledge (log entry 11). -/
def Obligations.CharacterTableCoversAllCodes : Prop :=
  decodeChr 0x30 = .charDigit0 ∧ decodeChr 0x31 = .charDigit1 ∧ decodeChr 0x32 = .charDigit2 ∧
  decodeChr 0x33 = .charDigit3 ∧ decodeChr 0x34 = .charDigit4 ∧ decodeChr 0x35 = .charDigit5 ∧
  decodeChr 0x36 = .charDigit6 ∧ decodeChr 0x37 = .charDigit7 ∧ decodeChr 0x38 = .charDigit8 ∧
  decodeChr 0x39 = .charDigit9 ∧ decodeChr 0x4C = .charUpperL ∧ decodeChr 0x6C = .charLowerL ∧
  decodeChr 0x44 = .charUpperD ∧ decodeChr 0x64 = .charLowerD ∧
  ∀ c : Byte, c ∉ selectingCodes → decodeChr c = .charOther c

/-- Words the spec writes out (30_encoding.md R81, its table; 95_test_vectors.md V4, V7.18; 43_animation_controller.md R175) decode to the instructions they stand for. The two character codes are ASCII, which the spec supplies from general knowledge (R74, log entry 11). -/
def Obligations.SpecWordsDecode : Prop :=
  decode (.cw64 0x0000000000000000) = .nop ∧
  decode (.cw64 0x1300000000000000) = .digit 3 ∧
  decode (.cw64 0x2000000000000000) = .pwron ∧
  decode (.cw64 0x3000000000000000) = .pwroff ∧
  decode (.cw64 0x4300004D00000000) = .render 3 0x004D 0 0 ∧
  decode (.cw64 0x470001000080FF80) = .render 7 0x0100 0x0080 0xFF80 ∧
  decode (.cw64 0x5000000000000000) = .clear ∧
  decode (.cw64 0x6033000000000000) = .char 0x33 ∧
  decode (.cw64 0x9000000000000000) = .reserved9 ∧
  decode (.cw64 0xFFFFFFFFFFFFFFFF) = .reserved15 ∧
  decode (.chr8 0x33) = .charDigit3 ∧
  decode (.chr8 0x78) = .charOther 0x78

/-- R71: a field that the operation of the word does not read has no effect on the step that accepts the word; the command notation writes such a field as zero. -/
def Obligations.IgnoredFieldsHaveNoEffect : Prop :=
  (∀ (l : AsmLine) (w : CmdWord), l.assemble = .command w →
    (opOf w ≠ 1 → opOf w ≠ 4 → symOf w = 0) ∧ (opOf w ≠ 6 → chrOf w = 0) ∧
    (opOf w ≠ 4 → rOf w = 0 ∧ gOf w = 0 ∧ bOf w = 0)) ∧
  ∀ (s : State) (op : BitVec 4) (sym sym' : SymField) (chr chr' : Byte) (r r' g g' b b' : ChanCode),
    (op = 1 ∨ op = 4 → sym = sym') → (op = 6 → chr = chr') → (op = 4 → r = r' ∧ g = g' ∧ b = b') →
    step (s.presentCmd (packCmd op sym chr r g b)) = step (s.presentCmd (packCmd op sym' chr' r' g' b'))

/-- R81: the forms of the command notation, `NOP` among them, assemble to words that decode to the commands they name; `ON` is `PWRON`, `OFF` is `PWROFF` (R82). -/
def Obligations.AssembledLinesDecode : Prop :=
  ∀ (d : SymField) (r g b : ChanLit) (c : Byte),
    (AsmLine.assemble .nop = .command 0 ∧ decodeCmd 0 = .nop) ∧
    (∃ w, AsmLine.assemble (.digit d) = .command w ∧ decodeCmd w = .digit d) ∧
    (∃ w, AsmLine.assemble .pwron = .command w ∧ AsmLine.assemble .on = .command w ∧ decodeCmd w = .pwron) ∧
    (∃ w, AsmLine.assemble .pwroff = .command w ∧ AsmLine.assemble .off = .command w ∧ decodeCmd w = .pwroff) ∧
    (∃ w, AsmLine.assemble (.render d r g b) = .command w ∧
      decodeCmd w = .render d r.chanCode g.chanCode b.chanCode) ∧
    (∃ w, AsmLine.assemble .clear = .command w ∧ decodeCmd w = .clear) ∧
    (∃ w, AsmLine.assemble (.char c) = .command w ∧ decodeCmd w = .char c)

/-! ## One tick -/

/-- A tick in which a command is accepted runs the instruction its word decodes to, in the state whose inputs have moved on by one tick (R134, R160, R161). -/
def Obligations.StepRunsDecodedCommand : Prop :=
  ∀ (s : State) (i : Instr), s.st = .idle → s.input.rst = false → s.input.cmdValid = true →
    decode (.cw64 s.input.cmd) = i → i.wf = true → step s = exec i (nextTick s)

/-- A tick in which a `CHAR` word is accepted runs the row of the character the word carries (R74, R175). -/
def Obligations.StepRunsCharacterRow : Prop :=
  ∀ (s : State) (i : Instr), s.st = .idle → s.input.rst = false → s.input.cmdValid = true →
    opOf s.input.cmd = 6 → decode (.chr8 (chrOf s.input.cmd)) = i → step s = exec i (nextTick s)

/-- An instruction put in front of the machine is what the next step runs (the model's interface, log entry 12). -/
def Obligations.PlacedWordRunsNext : Prop :=
  ∀ (s : State) (nbits w : Nat) (i : Instr), decodeTableWord nbits w = some i →
    step (s.withFetchWord nbits w) = exec i (nextTick { s with st := .idle })

/-- R131: the step is total, in every state and for every input, and no instruction faults or is refused. -/
def Obligations.EveryStepAnswersNext : Prop :=
  (∀ s : State, ∃ t, step s = .next t) ∧ ∀ (i : Instr) (s : State), ∃ t, exec i s = .next t

/-- R35: the reset value of every register, what is observable of it, and that a tick with `rst = 1` leaves these values. The two fields of the model's own are not mentioned (log entry 2). -/
def Obligations.ResetStateValues : Prop :=
  State.reset.st = .uninit ∧ State.reset.animOn = false ∧ State.reset.animSym = 0 ∧
  State.reset.animR = 0 ∧ State.reset.animG = 0 ∧ State.reset.animB = 0 ∧
  (∀ i : Fin N, State.reset.frame[i] = 0) ∧
  State.reset.cell = 0 ∧ State.reset.biti = 23 ∧ State.reset.tcnt = 0 ∧ State.reset.gcnt = 0 ∧
  State.reset.outputs = { dout := false, cmdReady := false, halted := false, animOn := false, animSym := 0 } ∧
  ∀ s : State, s.input.rst = true → ∃ t, step s = .next t ∧ sameRegisters State.reset t

/-- R230: a tick with `rst = 1` leaves every register at its reset value, whatever the state and the other inputs; holding `rst` keeps the block there, and the initialisation check runs in the first tick with `rst = 0`. -/
def Obligations.ResetFromAnyState : Prop :=
  ∀ (s : State) (k : Nat), (∀ j, j ≤ k → (s.inputAt j).rst = true) →
    ∃ t, reaches (k + 1) s t ∧ sameRegisters State.reset t ∧
      t.outputs = { dout := false, cmdReady := false, halted := false, animOn := false, animSym := 0 } ∧
      (t.input.rst = false → step t = .next (stepUninit Config.platform t.input.cfgChanOk (nextTick t)))

/-- R132: the initialisation check, made in the one `UNINIT` tick, for any values of the parameters: good leads to `GAP` with `GCNT = 0`, bad to `HALTED` and a `Halt` event; no other register changes. The step does it with the platform of this hardware, the machine of a parameter set with the set's own `PAT_LEN` and `N`, logging `Halt` for either cause. -/
def Obligations.InitialisationCheck : Prop :=
  (∀ (s : State) (inTx : Bool) (t : Nat), s.st = .uninit → s.input.rst = false →
    step s = .next (stepUninit Config.platform s.input.cfgChanOk (nextTick s)) ∧
    tickEvents inTx t s = if configGood Config.platform s.input.cfgChanOk then [] else [.halt t]) ∧
  (∀ (p : Platform) (ok : Bool) (s : State),
    (ok = true ∧ p.patLen = N → configGood p ok = true ∧ stepUninit p ok s = { s with st := .gap, gcnt := 0 }) ∧
    (ok = false ∨ p.patLen ≠ N → configGood p ok = false ∧ stepUninit p ok s = { s with st := .halted })) ∧
  ∀ (p : Config.ParamSet) (s : BuiltState p.n) (inTx : Bool) (t : Nat), s.st = .uninit → s.input.rst = false →
    (s.input.cfgChanOk = true ∧ p.platform.patLen = p.n →
      builtStep p s = .next { s.elapse with st := .gap, gcnt := 0 } ∧ builtTickEvents p inTx t s = []) ∧
    (s.input.cfgChanOk = false ∨ p.platform.patLen ≠ p.n →
      builtStep p s = .next { s.elapse with st := .halted } ∧ builtTickEvents p inTx t s = [.halt t])

/-- R133: in `HALTED` nothing changes for as long as `rst = 0`, and the outputs say so; nothing is logged; only `rst = 1` leaves it. -/
def Obligations.HaltedIsAbsorbing : Prop :=
  (∀ (s : State) (k : Nat), s.st = .halted → noReset s k →
    ∃ t, reaches k s t ∧ sameRegisters s t ∧ t.cmdReady = false ∧ t.dout = false ∧ t.isHalted = true ∧
      ∀ (inTx : Bool) (n : Nat), eventLog inTx n k s = []) ∧
  ∀ s t : State, s.st = .halted → step s = .next t → t.st ≠ .halted → s.input.rst = true

/-- `HALTED` is entered only by a failed initialisation check and left only by reset (R201, R202, R210). -/
def Obligations.HaltEnteredOnlyAtInitialisation : Prop :=
  ∀ s t : State, step s = .next t →
    (t.st = .halted → s.input.rst = false ∧
      (s.st = .halted ∨ (s.st = .uninit ∧ configGood Config.platform s.input.cfgChanOk = false))) ∧
    (s.st = .halted → t.st ≠ .halted → s.input.rst = true)

/-- R134: without `cmd_valid` an `IDLE` tick changes nothing; with it the word is accepted and executed in that tick, which logs it, and `dout` is low during the tick. -/
def Obligations.IdleAcceptsInOneTick : Prop :=
  ∀ (s : State) (inTx : Bool) (n : Nat), s.st = .idle → s.input.rst = false →
    s.dout = false ∧
    (s.input.cmdValid = false → step s = .next (nextTick s) ∧ tickEvents inTx n s = []) ∧
    (s.input.cmdValid = true → step s = exec (decodeCmd s.input.cmd) (nextTick s) ∧
      .accept n s.input.cmd ∈ tickEvents inTx n s ∧
      ∃ t, step s = .next t ∧
        (t = nextTick s ∨ (t.st = .shift ∧ t.cell = 0 ∧ t.biti = 23 ∧ t.tcnt = 0)))

/-- R135: one tick of `SHIFT`, by cases on the position; no register but those named changes, no input but `rst` is read, and no command is accepted. -/
def Obligations.ShiftAdvancesPosition : Prop :=
  ∀ s : State, s.st = .shift → s.input.rst = false →
    (∀ (inTx : Bool) (n : Nat), tickEvents inTx n s = []) ∧
    (s.tcnt.toNat < 2 →
      step s = .next (nextTick { s with tcnt := s.tcnt + 1 })) ∧
    (2 ≤ s.tcnt.toNat → 0 < s.biti.toNat →
      step s = .next (nextTick { s with tcnt := 0, biti := s.biti - 1 })) ∧
    (2 ≤ s.tcnt.toNat → s.biti.toNat = 0 → s.cell.toNat < 24 →
      step s = .next (nextTick { s with tcnt := 0, biti := 23, cell := s.cell + 1 })) ∧
    (2 ≤ s.tcnt.toNat → s.biti.toNat = 0 → 24 ≤ s.cell.toNat →
      step s = .next (nextTick { s with tcnt := 0, biti := 23, cell := 0, st := .gap, gcnt := 0 }))

/-- R136: one tick of `GAP`; the last one enters `IDLE`, and logs `Done` for the next tick exactly when the gap follows a burst. That it does is a Bool of the log's own, the model's choice (log entry 16): true after the `SHIFT` tick that enters the gap, false after the `UNINIT` tick, kept through the gap. -/
def Obligations.GapCountsToIdle : Prop :=
  (∀ (s t : State) (inTx : Bool), step s = .next t → t.st = .gap →
    (s.st = .shift ∧ nextInTx inTx s (.next t) = true) ∨
    (s.st = .uninit ∧ nextInTx inTx s (.next t) = false) ∨
    (s.st = .gap ∧ nextInTx inTx s (.next t) = inTx)) ∧
  ∀ (s : State) (inTx : Bool) (n : Nat), s.st = .gap → s.input.rst = false →
    s.dout = false ∧ s.cmdReady = false ∧
    (s.gcnt.toNat < 119 →
      step s = .next (nextTick { s with gcnt := s.gcnt + 1 }) ∧ tickEvents inTx n s = []) ∧
    (119 ≤ s.gcnt.toNat →
      step s = .next (nextTick { s with gcnt := 0, st := .idle }) ∧
      tickEvents inTx n s = if inTx then [.done (n + 1)] else [])

/-- Outside `IDLE` the command port is not read, and outside `UNINIT` the strap is not: whatever else the host drives in the tick, with the same `rst`, the next state is the same (R135, R136, R144, R160, R245). -/
def Obligations.BusyBlockReadsOnlyReset : Prop :=
  ∀ (s : State) (i : Input), s.st ≠ .idle → i.rst = s.input.rst →
    (s.st = .uninit → i.cfgChanOk = s.input.cfgChanOk) → step (s.present i) = step s

/-- R245: `cfg_chan_ok` is sampled in the `UNINIT` tick, where the outcome turns on it whatever the platform with rows of N cells, and in no other tick. -/
def Obligations.ChannelStrapSampledOnce : Prop :=
  (∀ (s : State) (ok : Bool), s.st ≠ .uninit →
    step (s.present { s.input with cfgChanOk := ok }) = step s) ∧
  (∀ (s : State) (ok : Bool), s.st = .uninit → s.input.rst = false →
    step (s.present { s.input with cfgChanOk := ok }) = .next (stepUninit Config.platform ok (nextTick s))) ∧
  ∀ (p : Platform) (s : State), p.patLen = N →
    (stepUninit p true s).st = .gap ∧ (stepUninit p false s).st = .halted

/-- R24: the five outputs; none depends on an input. -/
def Obligations.OutputsFollowState : Prop :=
  ∀ s : State,
    (s.st ≠ .shift → s.dout = false) ∧
    (s.st = .shift → ∀ (hc : s.cell.toNat < N), s.biti.toNat < 24 →
      (s.dout = true ↔ s.tcnt.toNat < if s.frame[s.cell.toNat].getLsbD s.biti.toNat then Config.t1h else Config.t0h)) ∧
    (s.cmdReady = true ↔ s.st = .idle) ∧ (s.isHalted = true ↔ s.st = .halted) ∧
    s.outputs = { dout := s.dout, cmdReady := s.cmdReady, halted := s.isHalted, animOn := s.animOn,
                  animSym := s.animSym } ∧
    ∀ i : Input, (s.present i).outputs = s.outputs

/-! ## The commands -/

/-- R170 and R177: nothing changes, so a ready block is ready again. The canonical word of `NOP` is 0. -/
def Obligations.NoEffectCommandsChangeNothing : Prop :=
  encode .nop = .cw64 0x0000000000000000 ∧
  ∀ s : State,
    exec .nop s = .next s ∧
    exec .reserved7 s = .next s ∧ exec .reserved8 s = .next s ∧ exec .reserved9 s = .next s ∧
    exec .reserved10 s = .next s ∧ exec .reserved11 s = .next s ∧ exec .reserved12 s = .next s ∧
    exec .reserved13 s = .next s ∧ exec .reserved14 s = .next s ∧ exec .reserved15 s = .next s

/-- R171: `DIGIT d` with d at most 9 renders d in the default colour; above 9 it does nothing. -/
def Obligations.DigitRendersInDefaultColour : Prop :=
  (∀ (d : SymField) (chr : Byte) (r g b : ChanCode), decodeCmd (packCmd 1 d chr r g b) = .digit d) ∧
  encode (.digit 3) = .cw64 0x1300000000000000 ∧
  ∀ (s : State) (d : SymField),
    (∀ h : d.toNat < 10, ∃ t, exec (.digit d) s = .next t ∧
      Rendered s t ⟨d.toNat, h⟩ Config.defaultOnColor) ∧
    (9 < d.toNat → exec (.digit d) s = .next s)

/-- R172: `PWRON` renders symbol 0 in the default colour, whatever was shown, as `DIGIT 0` does. -/
def Obligations.PowerOnRendersSymbolZero : Prop :=
  (∀ (sym : SymField) (chr : Byte) (r g b : ChanCode), decodeCmd (packCmd 2 sym chr r g b) = .pwron) ∧
  encode .pwron = .cw64 0x2000000000000000 ∧
  ∀ s : State, (∃ t, exec .pwron s = .next t ∧ Rendered s t 0 Config.defaultOnColor) ∧
    exec .pwron s = exec (.digit 0) s

/-- R174 with R162: `RENDER s, r, g, b` with s at most 9 shows s in the given colour, storing the codes unclamped; above 9 it does nothing. -/
def Obligations.RenderShowsSymbolInColour : Prop :=
  (∀ (sym : SymField) (chr : Byte) (r g b : ChanCode), decodeCmd (packCmd 4 sym chr r g b) = .render sym r g b) ∧
  encode (.render 3 0x004D 0 0) = .cw64 0x4300004D00000000 ∧
  ∀ (s : State) (sym : SymField) (r g b : ChanCode),
    (∀ h : sym.toNat < 10, ∃ t, exec (.render sym r g b) s = .next t ∧
      Rendered s t ⟨sym.toNat, h⟩ { r := r, g := g, b := b }) ∧
    (9 < sym.toNat → exec (.render sym r g b) s = .next s)

/-- R173 and R176: `PWROFF` and `CLEAR` turn the grid off and transmit the all-zero frame, from every state alike. -/
def Obligations.ClearAndPowerOffTurnOff : Prop :=
  (∀ (sym : SymField) (chr : Byte) (r g b : ChanCode),
    decodeCmd (packCmd 3 sym chr r g b) = .pwroff ∧ decodeCmd (packCmd 5 sym chr r g b) = .clear) ∧
  encode .pwroff = .cw64 0x3000000000000000 ∧ encode .clear = .cw64 0x5000000000000000 ∧
  ∀ s : State, (∃ t, exec .clear s = .next t ∧ Cleared s t) ∧ (∃ t, exec .pwroff s = .next t ∧ Cleared s t) ∧
    exec .pwroff s = exec .clear s

/-- R175: what `CHAR c` does for each of the 256 codes. The codes are ASCII, which the spec supplies from general knowledge (log entry 11). -/
def Obligations.CharAppliesSelectionPolicy : Prop :=
  ∀ (s : State) (c : Byte),
    (∀ h : c.toNat - 0x30 < 10, 0x30 ≤ c.toNat →
      ∃ t, exec (.char c) s = .next t ∧ Rendered s t ⟨c.toNat - 0x30, h⟩ Config.defaultOnColor) ∧
    (c = 0x4C ∨ c = 0x6C → ∃ t, exec (.char c) s = .next t ∧ Rendered s t 0 Config.defaultOnColor) ∧
    (c = 0x44 ∨ c = 0x64 → ∃ t, exec (.char c) s = .next t ∧ Cleared s t) ∧
    (c ∉ selectingCodes → exec (.char c) s = .next s)

/-- The character rows of R74, each with the effect of its equivalent command; the default row has that of `NOP`, for every code. That the rows are instructions of their own is the model's choice (log entry 8), the codes are ASCII (log entry 11). -/
def Obligations.CharacterRowsRunTheirEquivalents : Prop :=
  ∀ s : State,
    (∃ t, exec .charDigit0 s = .next t ∧ Rendered s t 0 Config.defaultOnColor) ∧
    (∃ t, exec .charDigit1 s = .next t ∧ Rendered s t 1 Config.defaultOnColor) ∧
    (∃ t, exec .charDigit2 s = .next t ∧ Rendered s t 2 Config.defaultOnColor) ∧
    (∃ t, exec .charDigit3 s = .next t ∧ Rendered s t 3 Config.defaultOnColor) ∧
    (∃ t, exec .charDigit4 s = .next t ∧ Rendered s t 4 Config.defaultOnColor) ∧
    (∃ t, exec .charDigit5 s = .next t ∧ Rendered s t 5 Config.defaultOnColor) ∧
    (∃ t, exec .charDigit6 s = .next t ∧ Rendered s t 6 Config.defaultOnColor) ∧
    (∃ t, exec .charDigit7 s = .next t ∧ Rendered s t 7 Config.defaultOnColor) ∧
    (∃ t, exec .charDigit8 s = .next t ∧ Rendered s t 8 Config.defaultOnColor) ∧
    (∃ t, exec .charDigit9 s = .next t ∧ Rendered s t 9 Config.defaultOnColor) ∧
    (∃ t, exec .charUpperL s = .next t ∧ Rendered s t 0 Config.defaultOnColor) ∧
    (∃ t, exec .charLowerL s = .next t ∧ Rendered s t 0 Config.defaultOnColor) ∧
    (∃ t, exec .charUpperD s = .next t ∧ Cleared s t) ∧
    (∃ t, exec .charLowerD s = .next t ∧ Cleared s t) ∧
    ∀ c : Byte, exec (.charOther c) s = .next s

/-- `CHAR c` is the row of its character, for every code: the branches of R175 and the table of R74 agree. -/
def Obligations.CharEqualsItsCharacterRow : Prop :=
  ∀ (s : State) (c : Byte), exec (.char c) s = exec (decodeChr c) s

/-- R203: an accepted `DIGIT` or `RENDER` with a symbol in 10..15 changes no register, transmits nothing and leaves the block ready; only its acceptance is logged. -/
def Obligations.InvalidSelectionIsNoOp : Prop :=
  ∀ (s : State) (inTx : Bool) (n : Nat), s.st = .idle → s.input.rst = false → s.input.cmdValid = true →
    (opOf s.input.cmd = 1 ∨ opOf s.input.cmd = 4) → 9 < (symOf s.input.cmd).toNat →
    step s = .next (nextTick s) ∧ (nextTick s).cmdReady = true ∧
    tickEvents inTx n s = [.accept n s.input.cmd]

/-! ## Properties of the whole machine -/

/-- R165 and R25: the Animation State and `FRAME` change only by reset and by the acceptance of a transmitting command; On then has a symbol of the table. -/
def Obligations.AnimationStateOwnedByController : Prop :=
  ∀ s t : State, step s = .next t →
    ((t.animOn = s.animOn ∧ t.animSym = s.animSym ∧ t.animR = s.animR ∧ t.animG = s.animG ∧
      t.animB = s.animB ∧ t.frame = s.frame) ∨
    (s.input.rst = true ∧ t.animOn = false) ∨
    (s.input.rst = false ∧ s.st = .idle ∧ s.input.cmdValid = true ∧
      transmits (decodeCmd s.input.cmd) = true ∧ (t.animOn = true → t.animSym.toNat ≤ 9)))

/-- R164: `SHIFT` is entered only by the acceptance of a transmitting command, at the first position of a burst; so at most one transmission is in flight (R143). -/
def Obligations.ShiftEnteredOnlyByAcceptance : Prop :=
  ∀ s t : State, step s = .next t → t.st = .shift → s.st ≠ .shift →
    s.st = .idle ∧ s.input.rst = false ∧ s.input.cmdValid = true ∧
    transmits (decodeCmd s.input.cmd) = true ∧ t.cell = 0 ∧ t.biti = 23 ∧ t.tcnt = 0

/-- R183: an accepted word logs one `Transmit` if it is in the rule's list and none otherwise. -/
def Obligations.OneTransmissionPerOperation : Prop :=
  ∀ (s : State) (inTx : Bool) (n : Nat), s.st = .idle → s.input.rst = false → s.input.cmdValid = true →
    transmitCount (tickEvents inTx n s) = if transmits (decodeCmd s.input.cmd) then 1 else 0

/-- R180: a clear after any instruction leaves a zero frame and the Off state. -/
def Obligations.ClearAfterAnythingIsDark : Prop :=
  ∀ (i : Instr) (s t u : State), exec i s = .next t → exec .clear t = .next u →
    (∀ j : Fin N, u.frame[j] = 0) ∧ u.animOn = false ∧ u.animSym = 0 ∧ u.animR = 0 ∧ u.animG = 0 ∧ u.animB = 0

/-- R181: two renders end in the state that the second alone ends in from any other idle state, the Off state among them. -/
def Obligations.NoBleedBetweenRenders : Prop :=
  ∀ (s s' t u u' : State) (a b : SymField) (ra ga ba rb gb bb : ChanCode),
    s.gcnt = s'.gcnt → a.toNat ≤ 9 → b.toNat ≤ 9 →
    exec (.render a ra ga ba) s = .next t → exec (.render b rb gb bb) t = .next u →
    exec (.render b rb gb bb) s' = .next u' → sameRegisters u u'

/-- R182: the second of two clears changes no register, and hands the same frame to the encoder. -/
def Obligations.ClearTwiceIsClearOnce : Prop :=
  ∀ s t u : State, exec .clear s = .next t → exec .clear t = .next u →
    u = t ∧ ∀ (s' : State) (inTx : Bool) (n : Nat), s'.st = .idle → s'.input.rst = false →
      s'.input.cmdValid = true → decodeCmd s'.input.cmd = .clear →
      tickEvents inTx n s' = [.accept n s'.input.cmd, .transmit n t.frame]

/-- R32 holds in the reset state. -/
def Obligations.InvariantHoldsAtReset : Prop := Inv State.reset

/-- R32: every step keeps it, from every state and for every input. -/
def Obligations.InvariantKeptByEveryStep : Prop := ∀ s t : State, Inv s → step s = .next t → Inv t

/-- R141: without reset a transmission runs to completion in a bounded number of ticks. -/
def Obligations.TransmissionRunsToCompletion : Prop :=
  ∀ s : State, Inv s →
    (s.st = .shift → noReset s Config.frameTicks → ∃ k t, k ≤ Config.frameTicks ∧ reaches k s t ∧ t.st = .idle) ∧
    (s.st = .gap → noReset s Config.tReset → ∃ k t, k ≤ Config.tReset ∧ reaches k s t ∧ t.st = .idle)

/-- R232: from reset, with the channel claimed the block stays in `GAP` for `T_RESET` ticks and is then ready for the first time, in tick `T_RESET + 1`; without it the block is halted from tick 1 on for good. `PAT_LEN` is this hardware's (log entry 5); other values are in InitialisationCheck. -/
def Obligations.StartUpSequence : Prop :=
  ∀ s : State, s.toReset = s → s.input.rst = false →
    (s.input.cfgChanOk = true → noReset s (Config.tReset + 1) →
      (∀ k, 1 ≤ k → k ≤ Config.tReset →
        ∃ t, reaches k s t ∧ t.st = .gap ∧ t.gcnt.toNat = k - 1 ∧ t.cmdReady = false ∧ t.dout = false ∧
          t.animOn = false) ∧
      ∃ t, reaches (Config.tReset + 1) s t ∧ t.st = .idle ∧ t.cmdReady = true ∧ t.animOn = false) ∧
    (∀ k, s.input.cfgChanOk = false → noReset s (k + 1) →
      ∃ t, reaches (k + 1) s t ∧ t.st = .halted)

/-- R142: in a run from reset the first tick of every burst comes after at least `T_RESET + 1` ticks in a row with `dout` low. -/
def Obligations.ResetGapBeforeEveryBurst : Prop :=
  ∀ (s t : State) (k : Nat), s.toReset = s → reaches k s t →
    t.st = .shift → t.cell = 0 → t.biti = 23 → t.tcnt = 0 →
    Config.tReset + 1 ≤ k ∧
    ∀ d, 1 ≤ d → d ≤ Config.tReset + 1 → ∃ u, reaches (k - d) s u ∧ u.dout = false

/-! ## The Color Model -/

/-- R111: `CLAMP`. -/
def Obligations.ClampBounds : Prop :=
  ∀ x : Int, (x < 0 → clamp x = 0) ∧ (256 < x → clamp x = 256) ∧
    (0 ≤ x → x ≤ 256 → (clamp x : Int) = x)

/-- R112: `SCALE` is `k / 256` of 255, rounded to the nearest integer with ties upward, inside 16 bits. -/
def Obligations.ScaleRoundsToNearest : Prop :=
  ∀ k : Nat, k ≤ 256 →
    (scale k : ℤ) = ⌊(k : ℚ) * 255 / 256 + 1 / 2⌋ ∧ scale k = (k * 255 + 128) >>> 8 ∧
    k * 255 + 128 < 2 ^ 16 ∧ scale k ≤ 255

/-- R116: the closed form of `SCALE`. -/
def Obligations.ScaleClosedForm : Prop :=
  (∀ k : Nat, k ≤ 128 → scale k = k) ∧ ∀ k : Nat, 129 ≤ k → k ≤ 256 → scale k = k - 1

/-- R115: the bytes of a colour word, for every colour. -/
def Obligations.ColourWordLayout : Prop :=
  ∀ c : Color,
    (toWord c).extractLsb' 16 8 = chan c.g ∧ (toWord c).extractLsb' 8 8 = chan c.r ∧
    (toWord c).extractLsb' 0 8 = chan c.b ∧
    (toWord c).toNat = (chan c.g).toNat * 2 ^ 16 + (chan c.r).toNat * 2 ^ 8 + (chan c.b).toNat

/-- R117: the end points of a channel and of the colour word. -/
def Obligations.ChannelEndPoints : Prop :=
  (∀ x : ChanCode, ((chan x).toNat = 0 ↔ x.toInt ≤ 0) ∧ ((chan x).toNat = 255 ↔ 256 ≤ x.toInt)) ∧
  toWord ⟨0, 0, 0⟩ = 0x000000 ∧ toWord ⟨0x0100, 0x0100, 0x0100⟩ = 0xFFFFFF

/-- R118: `CHAN` never decreases. -/
def Obligations.ChannelIsMonotone : Prop :=
  ∀ x y : ChanCode, x.toInt ≤ y.toInt → (chan x).toNat ≤ (chan y).toNat

/-- R114, R113, R119: `CHAN` is `GAMMA` of `SCALE` of `CLAMP`, for every table; the table of this hardware is the identity, so `CHAN` is `SCALE` of `CLAMP`, for every channel code; and that is the document's real-valued function. -/
def Obligations.ChannelMatchesRealFunction : Prop :=
  (∀ (lut : Byte → Byte) (x : ChanCode), chanBy lut x = lut (BitVec.ofNat 8 (scale (clamp x.toInt)))) ∧
  (∀ v : Byte, gamma v = v) ∧
  ∀ x : ChanCode, (chan x).toNat = scale (clamp x.toInt) ∧
    ((chan x).toNat : ℤ) = ⌊min (max ((x.toInt : ℚ) / 256) 0) 1 * 255 + 1 / 2⌋ ∧
    ((scale (clamp x.toInt) : Nat) : ℤ) = ⌊min (max ((x.toInt : ℚ) / 256) 0) 1 * 255 + 1 / 2⌋

/-! ## The wire -/

/-- R138: the two pulses. -/
def Obligations.PulseShapes : Prop :=
  pulse true = [true, true, false] ∧ pulse false = [true, false, false] ∧
  ∀ b : Bool, (pulse b).length = Config.tBit

/-- The waveform of a frame has its length and its closed form (R139, R77). -/
def Obligations.WaveHasItsClosedForm : Prop :=
  ∀ f : Frame, (wave f).length = Config.frameTicks ∧
    ∀ j, j < Config.frameTicks → (wave f)[j]? = some (waveAt f j)

/-- R139: the block drives `WAVE(F)` for the frame F that an accepted command builds, tick by tick and position by position, `FRAME` not changing, and is ready again exactly `L + 1` ticks after the accept tick. -/
def Obligations.SteppingDrivesTheWave : Prop :=
  ∀ s u : State, s.st = .idle → s.input.cmdValid = true → noReset s (Config.frameTicks + 1) →
    step s = .next u → u.st = .shift →
    s.dout = false ∧
    ∀ j, j ≤ Config.frameTicks → ∃ t, reaches (j + 1) s t ∧ t.frame = u.frame ∧
      (j < Config.burstTicks → t.st = .shift ∧ (t.cell.toNat, t.biti.toNat, t.tcnt.toNat) = burstPosition j) ∧
      (Config.burstTicks ≤ j → j < Config.frameTicks → t.st = .gap) ∧
      (j < Config.frameTicks → (wave u.frame)[j]? = some t.dout ∧ t.cmdReady = false) ∧
      (j = Config.frameTicks → t.st = .idle ∧ t.cmdReady = true)

/-- R151: decoding the waveform of a frame gives the frame. -/
def Obligations.DecodedWaveIsTheFrame : Prop := ∀ f : Frame, decodeWave (wave f) = f.toList

/-- R140: the high ticks of a frame are 600 and one for every 1 bit. -/
def Obligations.HighTicksOfAFrame : Prop := ∀ f : Frame, (wave f).count true = 600 + frameOneBits f

/-- R137: never three high ticks in a row, and inside the burst never three low ones. -/
def Obligations.NoThreeEqualTicksInABurst : Prop :=
  ∀ (f : Frame) (j : Nat),
    ¬ ((wave f)[j]? = some true ∧ (wave f)[j + 1]? = some true ∧ (wave f)[j + 2]? = some true) ∧
    (j + 2 < Config.burstTicks →
      ¬ ((wave f)[j]? = some false ∧ (wave f)[j + 1]? = some false ∧ (wave f)[j + 2]? = some false))

/-! ## Parameters -/

/-- R7: a parameter set is well formed exactly if each clause of the rule holds, and the set of this hardware is; from a set that is not well formed no machine is built, from one that is, its machine is; if `PAT_LEN` is not N that machine halts in its first tick without reset, for good, which is all it logs (R201). R7 does not restrict the sets that build to the format sizes the rules are written for (`formats`): that premise is the model's choice (log entry 21). -/
def Obligations.WellFormedParameters : Prop :=
  (∀ p : Config.ParamSet, p.wf = true ↔
    1 ≤ p.n ∧ p.nsym = 10 ∧ 1 ≤ p.t0h ∧ 1 ≤ p.t0l ∧ 1 ≤ p.t1h ∧ 1 ≤ p.t1l ∧
    p.t0h + p.t0l = p.tBit ∧ p.t1h + p.t1l = p.tBit ∧ p.t0h < p.t1h ∧ 1 ≤ p.tReset ∧
    p.gammaLut 0 = 0 ∧ p.gammaLut 255 = 255 ∧
    ∀ x : Nat, x < 255 → p.gammaLut (BitVec.ofNat 8 x) ≤ p.gammaLut (BitVec.ofNat 8 (x + 1))) ∧
  Config.paramSet.wf = true ∧
  (∀ p : Config.ParamSet, p.wf = false → build p = .error .notWellFormed) ∧
  (∀ p : Config.ParamSet, p.wf = true → p.formats = true → build p = .ok (builtCore p)) ∧
  ∀ p : Config.ParamSet, p.wf = true → p.formats = true → p.platform.patLen ≠ p.n →
    ∀ (s : BuiltState p.n) (k : Nat), s.toReset = s → (∀ j, j < k + 1 → (s.inputAt j).rst = false) →
      ∃ t : BuiltState p.n, (builtCore p).run (k + 1) s = .next t ∧ t.st = .halted ∧
        ∀ (inTx : Bool) (m : Nat), builtEventLog p inTx m (k + 1) s = [.halt m]

/-- R55: each of the two candidate maps numbers the 25 cells of the grid, each number once. -/
def Obligations.ScanMapsNumberTheGrid : Prop :=
  ∀ (serpentine : Bool) (i : Fin N), ∃ row col, row < Config.rows ∧ col < Config.cols ∧
    scanIndex serpentine row col = i.val ∧
    ∀ row' col', row' < Config.rows → col' < Config.cols → scanIndex serpentine row' col' = i.val →
      row' = row ∧ col' = col

/-! ## The host of a test program -/

/-- R82: the host holds a command word through a gap until the block is ready, and in that tick it is accepted and the program goes on. -/
def Obligations.HostHoldsCommandUntilAccepted : Prop :=
  ∀ (ok : Bool) (cw : CmdWord) (p : List HostLine) (m : Nat),
    (∀ s : State, s.st = .gap → s.gcnt.toNat < Config.tReset →
      ∃ t, t.st = .idle ∧ t.frame = s.frame ∧ t.animOn = s.animOn ∧ t.animSym = s.animSym ∧
        t.animR = s.animR ∧ t.animG = s.animG ∧ t.animB = s.animB ∧
        hostRun ok (Config.tReset - s.gcnt.toNat + m) (.command cw :: p) s = hostRun ok m (.command cw :: p) t) ∧
    (∀ t : State, t.st = .idle →
      ∃ u, exec (decodeCmd cw) (nextTick t) = .next u ∧
        hostRun ok (m + 1) (.command cw :: p) t = hostRun ok m p u)

/-! ## The log of a transmission, and the machine as one of the machines built from parameters -/

/-- R136: the log of a transmission that runs to completion holds one `Done`, in its place, and that of the start-up gap holds none. The log's place outside State is the model's choice (log entry 16). -/
def Obligations.OneDonePerCompletedTransmission : Prop :=
  (∀ (s u : State) (inTx : Bool) (n : Nat), s.st = .idle → s.input.cmdValid = true →
    noReset s (Config.frameTicks + 1) → step s = .next u → u.st = .shift →
    eventLog inTx n (Config.frameTicks + 1) s =
      [.accept n s.input.cmd, .transmit n u.frame, .done (n + Config.frameTicks + 1)]) ∧
  ∀ (s : State) (inTx : Bool) (n : Nat), s.toReset = s → s.input.cfgChanOk = true →
    noReset s (Config.tReset + 1) → eventLog inTx n (Config.tReset + 1) s = []

/-- The machine built from this hardware's parameter set is this model: it is built, its runs are the model's runs from every state and for every schedule, and its outputs and its log are the model's (R7, R11, R131; log entry 21). -/
def Obligations.BuiltMachineIsTheModel : Prop :=
  build Config.paramSet = .ok (builtCore Config.paramSet) ∧
  State.reset.built = BuiltState.reset Config.paramSet.n ∧
  (∀ s : State, builtOutputs Config.paramSet s.built = s.outputs) ∧
  (∀ (s : State) (inTx : Bool) (m k : Nat),
    builtEventLog Config.paramSet inTx m k s.built = eventLog inTx m k s) ∧
  ∀ (k : Nat) (s t : State), reaches k s t → (builtCore Config.paramSet).run k s.built = .next t.built
end

