-- ==== Sys2Proof/Laws/State.lean ====
section
/-! SUPPORT. One lemma per field per update of the state, true by rfl. -/

namespace Sys2Proof.Machine

@[simp] theorem State.elapse_st (s : State) : s.elapse.st = s.st := rfl
@[simp] theorem State.elapse_animOn (s : State) : s.elapse.animOn = s.animOn := rfl
@[simp] theorem State.elapse_animSym (s : State) : s.elapse.animSym = s.animSym := rfl
@[simp] theorem State.elapse_animR (s : State) : s.elapse.animR = s.animR := rfl
@[simp] theorem State.elapse_animG (s : State) : s.elapse.animG = s.animG := rfl
@[simp] theorem State.elapse_animB (s : State) : s.elapse.animB = s.animB := rfl
@[simp] theorem State.elapse_frame (s : State) : s.elapse.frame = s.frame := rfl
@[simp] theorem State.elapse_cell (s : State) : s.elapse.cell = s.cell := rfl
@[simp] theorem State.elapse_biti (s : State) : s.elapse.biti = s.biti := rfl
@[simp] theorem State.elapse_tcnt (s : State) : s.elapse.tcnt = s.tcnt := rfl
@[simp] theorem State.elapse_gcnt (s : State) : s.elapse.gcnt = s.gcnt := rfl
@[simp] theorem State.elapse_inputs (s : State) : s.elapse.inputs = s.inputs.tail := rfl
@[simp] theorem State.elapse_tick (s : State) : s.elapse.tick = s.tick + 1 := rfl

@[simp] theorem State.present_st (s : State) (i : Config.Input) : (s.present i).st = s.st := rfl
@[simp] theorem State.present_animOn (s : State) (i : Config.Input) : (s.present i).animOn = s.animOn := rfl
@[simp] theorem State.present_animSym (s : State) (i : Config.Input) : (s.present i).animSym = s.animSym := rfl
@[simp] theorem State.present_animR (s : State) (i : Config.Input) : (s.present i).animR = s.animR := rfl
@[simp] theorem State.present_animG (s : State) (i : Config.Input) : (s.present i).animG = s.animG := rfl
@[simp] theorem State.present_animB (s : State) (i : Config.Input) : (s.present i).animB = s.animB := rfl
@[simp] theorem State.present_frame (s : State) (i : Config.Input) : (s.present i).frame = s.frame := rfl
@[simp] theorem State.present_cell (s : State) (i : Config.Input) : (s.present i).cell = s.cell := rfl
@[simp] theorem State.present_biti (s : State) (i : Config.Input) : (s.present i).biti = s.biti := rfl
@[simp] theorem State.present_tcnt (s : State) (i : Config.Input) : (s.present i).tcnt = s.tcnt := rfl
@[simp] theorem State.present_gcnt (s : State) (i : Config.Input) : (s.present i).gcnt = s.gcnt := rfl
@[simp] theorem State.present_inputs (s : State) (i : Config.Input) : (s.present i).inputs = i :: s.inputs.tail := rfl
@[simp] theorem State.present_tick (s : State) (i : Config.Input) : (s.present i).tick = s.tick := rfl

@[simp] theorem State.toReset_st (s : State) : s.toReset.st = State.reset.st := rfl
@[simp] theorem State.toReset_animOn (s : State) : s.toReset.animOn = State.reset.animOn := rfl
@[simp] theorem State.toReset_animSym (s : State) : s.toReset.animSym = State.reset.animSym := rfl
@[simp] theorem State.toReset_animR (s : State) : s.toReset.animR = State.reset.animR := rfl
@[simp] theorem State.toReset_animG (s : State) : s.toReset.animG = State.reset.animG := rfl
@[simp] theorem State.toReset_animB (s : State) : s.toReset.animB = State.reset.animB := rfl
@[simp] theorem State.toReset_frame (s : State) : s.toReset.frame = State.reset.frame := rfl
@[simp] theorem State.toReset_cell (s : State) : s.toReset.cell = State.reset.cell := rfl
@[simp] theorem State.toReset_biti (s : State) : s.toReset.biti = State.reset.biti := rfl
@[simp] theorem State.toReset_tcnt (s : State) : s.toReset.tcnt = State.reset.tcnt := rfl
@[simp] theorem State.toReset_gcnt (s : State) : s.toReset.gcnt = State.reset.gcnt := rfl
@[simp] theorem State.toReset_inputs (s : State) : s.toReset.inputs = s.inputs := rfl
@[simp] theorem State.toReset_tick (s : State) : s.toReset.tick = s.tick := rfl

@[simp] theorem State.halt_st (s : State) : s.halt.st = .halted := rfl
@[simp] theorem State.halt_animOn (s : State) : s.halt.animOn = s.animOn := rfl
@[simp] theorem State.halt_animSym (s : State) : s.halt.animSym = s.animSym := rfl
@[simp] theorem State.halt_animR (s : State) : s.halt.animR = s.animR := rfl
@[simp] theorem State.halt_animG (s : State) : s.halt.animG = s.animG := rfl
@[simp] theorem State.halt_animB (s : State) : s.halt.animB = s.animB := rfl
@[simp] theorem State.halt_frame (s : State) : s.halt.frame = s.frame := rfl
@[simp] theorem State.halt_cell (s : State) : s.halt.cell = s.cell := rfl
@[simp] theorem State.halt_biti (s : State) : s.halt.biti = s.biti := rfl
@[simp] theorem State.halt_tcnt (s : State) : s.halt.tcnt = s.tcnt := rfl
@[simp] theorem State.halt_gcnt (s : State) : s.halt.gcnt = s.gcnt := rfl
@[simp] theorem State.halt_inputs (s : State) : s.halt.inputs = s.inputs := rfl
@[simp] theorem State.halt_tick (s : State) : s.halt.tick = s.tick := rfl

@[simp] theorem State.enterGap_st (s : State) : s.enterGap.st = .gap := rfl
@[simp] theorem State.enterGap_animOn (s : State) : s.enterGap.animOn = s.animOn := rfl
@[simp] theorem State.enterGap_animSym (s : State) : s.enterGap.animSym = s.animSym := rfl
@[simp] theorem State.enterGap_animR (s : State) : s.enterGap.animR = s.animR := rfl
@[simp] theorem State.enterGap_animG (s : State) : s.enterGap.animG = s.animG := rfl
@[simp] theorem State.enterGap_animB (s : State) : s.enterGap.animB = s.animB := rfl
@[simp] theorem State.enterGap_frame (s : State) : s.enterGap.frame = s.frame := rfl
@[simp] theorem State.enterGap_cell (s : State) : s.enterGap.cell = s.cell := rfl
@[simp] theorem State.enterGap_biti (s : State) : s.enterGap.biti = s.biti := rfl
@[simp] theorem State.enterGap_tcnt (s : State) : s.enterGap.tcnt = s.tcnt := rfl
@[simp] theorem State.enterGap_gcnt (s : State) : s.enterGap.gcnt = 0 := rfl
@[simp] theorem State.enterGap_inputs (s : State) : s.enterGap.inputs = s.inputs := rfl
@[simp] theorem State.enterGap_tick (s : State) : s.enterGap.tick = s.tick := rfl

@[simp] theorem State.setAnim_st (s : State) (on : Bool) (sym : SymField) (c : Color) : (s.setAnim on sym c).st = s.st := rfl
@[simp] theorem State.setAnim_animOn (s : State) (on : Bool) (sym : SymField) (c : Color) : (s.setAnim on sym c).animOn = on := rfl
@[simp] theorem State.setAnim_animSym (s : State) (on : Bool) (sym : SymField) (c : Color) : (s.setAnim on sym c).animSym = sym := rfl
@[simp] theorem State.setAnim_animR (s : State) (on : Bool) (sym : SymField) (c : Color) : (s.setAnim on sym c).animR = c.r := rfl
@[simp] theorem State.setAnim_animG (s : State) (on : Bool) (sym : SymField) (c : Color) : (s.setAnim on sym c).animG = c.g := rfl
@[simp] theorem State.setAnim_animB (s : State) (on : Bool) (sym : SymField) (c : Color) : (s.setAnim on sym c).animB = c.b := rfl
@[simp] theorem State.setAnim_frame (s : State) (on : Bool) (sym : SymField) (c : Color) : (s.setAnim on sym c).frame = s.frame := rfl
@[simp] theorem State.setAnim_cell (s : State) (on : Bool) (sym : SymField) (c : Color) : (s.setAnim on sym c).cell = s.cell := rfl
@[simp] theorem State.setAnim_biti (s : State) (on : Bool) (sym : SymField) (c : Color) : (s.setAnim on sym c).biti = s.biti := rfl
@[simp] theorem State.setAnim_tcnt (s : State) (on : Bool) (sym : SymField) (c : Color) : (s.setAnim on sym c).tcnt = s.tcnt := rfl
@[simp] theorem State.setAnim_gcnt (s : State) (on : Bool) (sym : SymField) (c : Color) : (s.setAnim on sym c).gcnt = s.gcnt := rfl
@[simp] theorem State.setAnim_inputs (s : State) (on : Bool) (sym : SymField) (c : Color) : (s.setAnim on sym c).inputs = s.inputs := rfl
@[simp] theorem State.setAnim_tick (s : State) (on : Bool) (sym : SymField) (c : Color) : (s.setAnim on sym c).tick = s.tick := rfl

@[simp] theorem State.setFrame_st (s : State) (f : Frame) : (s.setFrame f).st = s.st := rfl
@[simp] theorem State.setFrame_animOn (s : State) (f : Frame) : (s.setFrame f).animOn = s.animOn := rfl
@[simp] theorem State.setFrame_animSym (s : State) (f : Frame) : (s.setFrame f).animSym = s.animSym := rfl
@[simp] theorem State.setFrame_animR (s : State) (f : Frame) : (s.setFrame f).animR = s.animR := rfl
@[simp] theorem State.setFrame_animG (s : State) (f : Frame) : (s.setFrame f).animG = s.animG := rfl
@[simp] theorem State.setFrame_animB (s : State) (f : Frame) : (s.setFrame f).animB = s.animB := rfl
@[simp] theorem State.setFrame_frame (s : State) (f : Frame) : (s.setFrame f).frame = f := rfl
@[simp] theorem State.setFrame_cell (s : State) (f : Frame) : (s.setFrame f).cell = s.cell := rfl
@[simp] theorem State.setFrame_biti (s : State) (f : Frame) : (s.setFrame f).biti = s.biti := rfl
@[simp] theorem State.setFrame_tcnt (s : State) (f : Frame) : (s.setFrame f).tcnt = s.tcnt := rfl
@[simp] theorem State.setFrame_gcnt (s : State) (f : Frame) : (s.setFrame f).gcnt = s.gcnt := rfl
@[simp] theorem State.setFrame_inputs (s : State) (f : Frame) : (s.setFrame f).inputs = s.inputs := rfl
@[simp] theorem State.setFrame_tick (s : State) (f : Frame) : (s.setFrame f).tick = s.tick := rfl

@[simp] theorem State.startTx_st (s : State) : s.startTx.st = .shift := rfl
@[simp] theorem State.startTx_animOn (s : State) : s.startTx.animOn = s.animOn := rfl
@[simp] theorem State.startTx_animSym (s : State) : s.startTx.animSym = s.animSym := rfl
@[simp] theorem State.startTx_animR (s : State) : s.startTx.animR = s.animR := rfl
@[simp] theorem State.startTx_animG (s : State) : s.startTx.animG = s.animG := rfl
@[simp] theorem State.startTx_animB (s : State) : s.startTx.animB = s.animB := rfl
@[simp] theorem State.startTx_frame (s : State) : s.startTx.frame = s.frame := rfl
@[simp] theorem State.startTx_cell (s : State) : s.startTx.cell = 0 := rfl
@[simp] theorem State.startTx_biti (s : State) : s.startTx.biti = 23 := rfl
@[simp] theorem State.startTx_tcnt (s : State) : s.startTx.tcnt = 0 := rfl
@[simp] theorem State.startTx_gcnt (s : State) : s.startTx.gcnt = s.gcnt := rfl
@[simp] theorem State.startTx_inputs (s : State) : s.startTx.inputs = s.inputs := rfl
@[simp] theorem State.startTx_tick (s : State) : s.startTx.tick = s.tick := rfl

/-! The reset values (10_state.md R35). -/

@[simp] theorem State.reset_st : State.reset.st = .uninit := rfl
@[simp] theorem State.reset_animOn : State.reset.animOn = false := rfl
@[simp] theorem State.reset_animSym : State.reset.animSym = 0 := rfl
@[simp] theorem State.reset_animR : State.reset.animR = 0 := rfl
@[simp] theorem State.reset_animG : State.reset.animG = 0 := rfl
@[simp] theorem State.reset_animB : State.reset.animB = 0 := rfl
@[simp] theorem State.reset_frame : State.reset.frame = zeroFrame := rfl
@[simp] theorem State.reset_cell : State.reset.cell = 0 := rfl
@[simp] theorem State.reset_biti : State.reset.biti = 23 := rfl
@[simp] theorem State.reset_tcnt : State.reset.tcnt = 0 := rfl
@[simp] theorem State.reset_gcnt : State.reset.gcnt = 0 := rfl
@[simp] theorem State.reset_inputs : State.reset.inputs = [] := rfl
@[simp] theorem State.reset_tick : State.reset.tick = 0 := rfl

@[simp] theorem zeroFrame_get (j : Nat) (h : j < Config.N) : zeroFrame[j] = 0 := by simp [zeroFrame]

@[simp] theorem renderFrame_get (p : Config.Platform) (k : Symbol) (c : Color) (j : Nat) (h : j < Config.N) :
    (renderFrame p k c)[j] = if p.pat k j then toWord c else 0 := by
  simp only [renderFrame, frameBy, lookup, Vector.getElem_ofFn]
  rfl

/-! The platform of this hardware. -/

@[simp] theorem platform_pat : Config.platform.pat = Config.pat := rfl
@[simp] theorem platform_patLen : Config.platform.patLen = Config.N := rfl
@[simp] theorem configGood_platform (ok : Bool) : configGood Config.platform ok = ok := by
  cases ok <;> rfl
@[simp] theorem platform_defaultOnColor : Config.platform.defaultOnColor = Config.defaultOnColor := rfl

/-! The parameters of 00_scope.md R6 and the lengths of 42_transmission_encoder.md R140 as numerals, for simp and omega (N also stands in types: N_eq is used by name). -/

theorem N_eq : Config.N = 25 := rfl
@[simp] theorem wordW_eq : Config.wordW = 24 := rfl
@[simp] theorem tBit_eq : Config.tBit = 3 := rfl
@[simp] theorem t1h_eq : Config.t1h = 2 := rfl
@[simp] theorem t1l_eq : Config.t1l = 1 := rfl
@[simp] theorem t0h_eq : Config.t0h = 1 := rfl
@[simp] theorem t0l_eq : Config.t0l = 2 := rfl
@[simp] theorem tReset_eq : Config.tReset = 120 := rfl
@[simp] theorem burstTicks_eq : Config.burstTicks = 1800 := rfl
@[simp] theorem frameTicks_eq : Config.frameTicks = 1920 := rfl

/-! The inputs of the ticks to come. -/

@[simp] theorem State.input_present (s : State) (i : Config.Input) : (s.present i).input = i := rfl

theorem State.inputAt_elapse (s : State) (k : Nat) : s.elapse.inputAt k = s.inputAt (k + 1) := by
  simp [inputAt, sampleAt, Nat.add_assoc, Nat.add_comm 1 k]

/-- The inputs are all that inputAt reads. -/
theorem State.inputAt_congr {s t : State} (hi : s.inputs = t.inputs) (ht : s.tick = t.tick) (k : Nat) :
    s.inputAt k = t.inputAt k := by
  simp [inputAt, hi, ht]

end Sys2Proof.Machine
end

