-- ==== Sys2Proof/Laws/Ops.lean ====
section
/-! SUPPORT. What each shared operation can do, said once: the provers cite these instead of unfolding the operations. -/

namespace Sys2Proof.Machine

open Sys2Proof.Config (Platform N)

/-! ## The symbol check -/

theorem selectSymbol_of_lt {s : SymField} (h : s.toNat < 10) : selectSymbol s = some ⟨s.toNat, h⟩ := by
  simp [selectSymbol, h]

theorem selectSymbol_of_ge {s : SymField} (h : 10 ≤ s.toNat) : selectSymbol s = none := by
  simp [selectSymbol, Nat.not_lt.mpr h]

theorem selectSymbol_eq_some {s : SymField} {k : Symbol} (h : selectSymbol s = some k) :
    k.val = s.toNat := by
  unfold selectSymbol at h
  split at h
  · cases h; rfl
  · cases h

/-! ## The Color Model of this hardware (R114, R115) -/

theorem chan_eq (x : ChanCode) : chan x = BitVec.ofNat 8 (scale (clamp x.toInt)) := rfl

theorem toWord_eq (c : Color) : toWord c = chan c.g ++ chan c.r ++ chan c.b := rfl

/-! ## DO_RENDER and EXEC_CHAR -/

theorem doRender_of_some {p : Platform} {s : State} {sym : SymField} {c : Color} {k : Symbol}
    (h : selectSymbol sym = some k) :
    doRender p s sym c = ((s.setAnim true sym c).setFrame (renderFrame p k c)).startTx := by
  simp [doRender, h]

theorem doRender_of_none {p : Platform} {s : State} {sym : SymField} {c : Color}
    (h : selectSymbol sym = none) : doRender p s sym c = s := by
  simp [doRender, h]

/-- A render does nothing, or all of R162. -/
theorem doRender_cases (p : Platform) (s : State) (sym : SymField) (c : Color) :
    (10 ≤ sym.toNat ∧ doRender p s sym c = s) ∨
    ∃ k, selectSymbol sym = some k ∧
      doRender p s sym c = ((s.setAnim true sym c).setFrame (renderFrame p k c)).startTx := by
  by_cases h : sym.toNat < 10
  · exact .inr ⟨_, selectSymbol_of_lt h, doRender_of_some (selectSymbol_of_lt h)⟩
  · have h' := Nat.not_lt.mp h
    exact .inl ⟨h', doRender_of_none (selectSymbol_of_ge h')⟩

/-- A character renders a digit in the default colour, clears, or does nothing. -/
theorem execCharacter_cases (p : Platform) (s : State) (c : Byte) :
    (∃ sym, execCharacter p s c = doRender p s sym p.defaultOnColor) ∨
    execCharacter p s c = doClear s ∨ execCharacter p s c = s := by
  unfold execCharacter
  split
  · exact .inl ⟨_, rfl⟩
  · split
    · exact .inl ⟨_, rfl⟩
    · split
      · exact .inr (.inl rfl)
      · exact .inr (.inr rfl)

/-! ## exec: what any instruction can do -/

/-- Every instruction answers a next state: the same state, a render, or a clear. -/
theorem exec_cases (i : Instr) (s : State) :
    exec i s = .next s ∨
    (∃ sym c, exec i s = .next (doRender Config.platform s sym c)) ∨
    exec i s = .next (doClear s) := by
  cases i
  case char c =>
    obtain ⟨sym, h⟩ | h | h := execCharacter_cases Config.platform s c
    · exact .inr (.inl ⟨sym, Config.platform.defaultOnColor, by simp [exec, execChar, h]⟩)
    · exact .inr (.inr (by simp [exec, execChar, h]))
    · exact .inl (by simp [exec, execChar, h])
  all_goals first
    | exact .inl rfl
    | exact .inr (.inr rfl)
    | exact .inr (.inl ⟨_, _, rfl⟩)

/-! ## The counters of SHIFT and GAP -/

theorem stepShift_cases (s : State) :
    (s.tcnt.toNat < 2 ∧ stepShift s = { s with tcnt := s.tcnt + 1 }) ∨
    (2 ≤ s.tcnt.toNat ∧ 0 < s.biti.toNat ∧ stepShift s = { s with tcnt := 0, biti := s.biti - 1 }) ∨
    (2 ≤ s.tcnt.toNat ∧ s.biti.toNat = 0 ∧ s.cell.toNat < 24 ∧
      stepShift s = { s with tcnt := 0, biti := 23, cell := s.cell + 1 }) ∨
    (2 ≤ s.tcnt.toNat ∧ s.biti.toNat = 0 ∧ 24 ≤ s.cell.toNat ∧
      stepShift s = { s with tcnt := 0, biti := 23, cell := 0, st := .gap, gcnt := 0 }) := by
  unfold stepShift
  split
  case isTrue h => exact .inl ⟨h, rfl⟩
  case isFalse h =>
    have ht := Nat.not_lt.mp h
    split
    case isTrue hb => exact .inr (.inl ⟨ht, hb, rfl⟩)
    case isFalse hb =>
      have hb' := Nat.eq_zero_of_not_pos hb
      split
      case isTrue hc => exact .inr (.inr (.inl ⟨ht, hb', hc, rfl⟩))
      case isFalse hc => exact .inr (.inr (.inr ⟨ht, hb', Nat.not_lt.mp hc, rfl⟩))

theorem stepGap_cases (s : State) :
    (s.gcnt.toNat < 119 ∧ stepGap s = { s with gcnt := s.gcnt + 1 }) ∨
    (119 ≤ s.gcnt.toNat ∧ stepGap s = { s with gcnt := 0, st := .idle }) := by
  unfold stepGap
  split
  case isTrue h => exact .inl ⟨h, rfl⟩
  case isFalse h => exact .inr ⟨Nat.not_lt.mp h, rfl⟩

theorem stepUninit_cases (p : Platform) (ok : Bool) (s : State) :
    (ok = true ∧ p.patLen = N ∧ stepUninit p ok s = s.enterGap) ∨
    (¬ (ok = true ∧ p.patLen = N) ∧ stepUninit p ok s = s.halt) := by
  unfold stepUninit configGood
  by_cases h : ok = true ∧ p.patLen = N
  · exact .inl ⟨h.1, h.2, by simp [h.1, h.2]⟩
  · refine .inr ⟨h, ?_⟩
    have : (ok && p.patLen == N) = false := by
      simpa using h
    simp [this]

/-! ## step: what one tick can do -/

/-- The cases of a tick (42_transmission_encoder.md R131), one for each value of `ST` and one for reset. -/
theorem step_cases {s t : State} (h : step s = .next t) :
    (s.input.rst = true ∧ t = s.elapse.toReset) ∨
    (s.input.rst = false ∧ s.st = .uninit ∧
      t = stepUninit Config.platform s.input.cfgChanOk s.elapse) ∨
    (s.input.rst = false ∧ s.st = .halted ∧ t = s.elapse) ∨
    (s.input.rst = false ∧ s.st = .idle ∧ s.input.cmdValid = false ∧ t = s.elapse) ∨
    (s.input.rst = false ∧ s.st = .idle ∧ s.input.cmdValid = true ∧
      exec (decodeCmd s.input.cmd) s.elapse = .next t) ∨
    (s.input.rst = false ∧ s.st = .shift ∧ t = stepShift s.elapse) ∨
    (s.input.rst = false ∧ s.st = .gap ∧ t = stepGap s.elapse) := by
  unfold step tickOnce stepWith at h
  cases hr : s.input.rst
  case true => simp only [hr, if_true] at h; cases h; exact .inl ⟨rfl, rfl⟩
  case false =>
    simp only [hr, Bool.false_eq_true, if_false, State.elapse_st] at h
    cases hs : s.st <;> simp only [hs] at h
    case uninit => cases h; exact .inr (.inl ⟨rfl, rfl, rfl⟩)
    case halted => cases h; exact .inr (.inr (.inl ⟨rfl, rfl, rfl⟩))
    case idle =>
      unfold stepIdle at h
      cases hv : s.input.cmdValid <;> simp only [hv, Bool.false_eq_true, if_false, if_true] at h
      case false => cases h; exact .inr (.inr (.inr (.inl ⟨rfl, rfl, rfl, rfl⟩)))
      case true => exact .inr (.inr (.inr (.inr (.inl ⟨rfl, rfl, rfl, h⟩))))
    case shift => cases h; exact .inr (.inr (.inr (.inr (.inr (.inl ⟨rfl, rfl, rfl⟩)))))
    case gap => cases h; exact .inr (.inr (.inr (.inr (.inr (.inr ⟨rfl, rfl, rfl⟩)))))

/-! ## Runs -/

@[simp] theorem run_zero (s : State) : Sys2Proof.core.run 0 s = .next s := rfl

theorem run_succ {s t : State} (k : Nat) (h : step s = .next t) :
    Sys2Proof.core.run (k + 1) s = Sys2Proof.core.run k t := by
  have : Sys2Proof.core.step s = .next t := h
  simp [Host.Core.run, this]

end Sys2Proof.Machine
end

