-- ==== Sys2Proof/Laws/Build.lean ====
section
/-! SUPPORT. The machines built from a parameter set: one lemma per field per update, what their tick can do, and how this hardware's registers are read as theirs. -/

namespace Sys2Proof.Machine

open Sys2Proof.Config (ParamSet)

variable {n : Nat}

@[simp] theorem BuiltState.elapse_st (s : BuiltState n) : s.elapse.st = s.st := rfl
@[simp] theorem BuiltState.elapse_animOn (s : BuiltState n) : s.elapse.animOn = s.animOn := rfl
@[simp] theorem BuiltState.elapse_animSym (s : BuiltState n) : s.elapse.animSym = s.animSym := rfl
@[simp] theorem BuiltState.elapse_animR (s : BuiltState n) : s.elapse.animR = s.animR := rfl
@[simp] theorem BuiltState.elapse_animG (s : BuiltState n) : s.elapse.animG = s.animG := rfl
@[simp] theorem BuiltState.elapse_animB (s : BuiltState n) : s.elapse.animB = s.animB := rfl
@[simp] theorem BuiltState.elapse_frame (s : BuiltState n) : s.elapse.frame = s.frame := rfl
@[simp] theorem BuiltState.elapse_cell (s : BuiltState n) : s.elapse.cell = s.cell := rfl
@[simp] theorem BuiltState.elapse_biti (s : BuiltState n) : s.elapse.biti = s.biti := rfl
@[simp] theorem BuiltState.elapse_tcnt (s : BuiltState n) : s.elapse.tcnt = s.tcnt := rfl
@[simp] theorem BuiltState.elapse_gcnt (s : BuiltState n) : s.elapse.gcnt = s.gcnt := rfl
@[simp] theorem BuiltState.elapse_inputs (s : BuiltState n) : s.elapse.inputs = s.inputs.tail := rfl
@[simp] theorem BuiltState.elapse_tick (s : BuiltState n) : s.elapse.tick = s.tick + 1 := rfl

@[simp] theorem BuiltState.toReset_st (s : BuiltState n) : s.toReset.st = .uninit := rfl
@[simp] theorem BuiltState.toReset_animOn (s : BuiltState n) : s.toReset.animOn = false := rfl
@[simp] theorem BuiltState.toReset_animSym (s : BuiltState n) : s.toReset.animSym = 0 := rfl
@[simp] theorem BuiltState.toReset_animR (s : BuiltState n) : s.toReset.animR = 0 := rfl
@[simp] theorem BuiltState.toReset_animG (s : BuiltState n) : s.toReset.animG = 0 := rfl
@[simp] theorem BuiltState.toReset_animB (s : BuiltState n) : s.toReset.animB = 0 := rfl
@[simp] theorem BuiltState.toReset_frame (s : BuiltState n) : s.toReset.frame = Vector.replicate n 0 := rfl
@[simp] theorem BuiltState.toReset_cell (s : BuiltState n) : s.toReset.cell = 0 := rfl
@[simp] theorem BuiltState.toReset_biti (s : BuiltState n) : s.toReset.biti = 23 := rfl
@[simp] theorem BuiltState.toReset_tcnt (s : BuiltState n) : s.toReset.tcnt = 0 := rfl
@[simp] theorem BuiltState.toReset_gcnt (s : BuiltState n) : s.toReset.gcnt = 0 := rfl
@[simp] theorem BuiltState.toReset_inputs (s : BuiltState n) : s.toReset.inputs = s.inputs := rfl
@[simp] theorem BuiltState.toReset_tick (s : BuiltState n) : s.toReset.tick = s.tick := rfl

@[simp] theorem BuiltState.halt_st (s : BuiltState n) : s.halt.st = .halted := rfl
@[simp] theorem BuiltState.halt_animOn (s : BuiltState n) : s.halt.animOn = s.animOn := rfl
@[simp] theorem BuiltState.halt_animSym (s : BuiltState n) : s.halt.animSym = s.animSym := rfl
@[simp] theorem BuiltState.halt_animR (s : BuiltState n) : s.halt.animR = s.animR := rfl
@[simp] theorem BuiltState.halt_animG (s : BuiltState n) : s.halt.animG = s.animG := rfl
@[simp] theorem BuiltState.halt_animB (s : BuiltState n) : s.halt.animB = s.animB := rfl
@[simp] theorem BuiltState.halt_frame (s : BuiltState n) : s.halt.frame = s.frame := rfl
@[simp] theorem BuiltState.halt_cell (s : BuiltState n) : s.halt.cell = s.cell := rfl
@[simp] theorem BuiltState.halt_biti (s : BuiltState n) : s.halt.biti = s.biti := rfl
@[simp] theorem BuiltState.halt_tcnt (s : BuiltState n) : s.halt.tcnt = s.tcnt := rfl
@[simp] theorem BuiltState.halt_gcnt (s : BuiltState n) : s.halt.gcnt = s.gcnt := rfl
@[simp] theorem BuiltState.halt_inputs (s : BuiltState n) : s.halt.inputs = s.inputs := rfl
@[simp] theorem BuiltState.halt_tick (s : BuiltState n) : s.halt.tick = s.tick := rfl

@[simp] theorem BuiltState.enterGap_st (s : BuiltState n) : s.enterGap.st = .gap := rfl
@[simp] theorem BuiltState.enterGap_animOn (s : BuiltState n) : s.enterGap.animOn = s.animOn := rfl
@[simp] theorem BuiltState.enterGap_animSym (s : BuiltState n) : s.enterGap.animSym = s.animSym := rfl
@[simp] theorem BuiltState.enterGap_animR (s : BuiltState n) : s.enterGap.animR = s.animR := rfl
@[simp] theorem BuiltState.enterGap_animG (s : BuiltState n) : s.enterGap.animG = s.animG := rfl
@[simp] theorem BuiltState.enterGap_animB (s : BuiltState n) : s.enterGap.animB = s.animB := rfl
@[simp] theorem BuiltState.enterGap_frame (s : BuiltState n) : s.enterGap.frame = s.frame := rfl
@[simp] theorem BuiltState.enterGap_cell (s : BuiltState n) : s.enterGap.cell = s.cell := rfl
@[simp] theorem BuiltState.enterGap_biti (s : BuiltState n) : s.enterGap.biti = s.biti := rfl
@[simp] theorem BuiltState.enterGap_tcnt (s : BuiltState n) : s.enterGap.tcnt = s.tcnt := rfl
@[simp] theorem BuiltState.enterGap_gcnt (s : BuiltState n) : s.enterGap.gcnt = 0 := rfl
@[simp] theorem BuiltState.enterGap_inputs (s : BuiltState n) : s.enterGap.inputs = s.inputs := rfl
@[simp] theorem BuiltState.enterGap_tick (s : BuiltState n) : s.enterGap.tick = s.tick := rfl

@[simp] theorem BuiltState.startTx_st (s : BuiltState n) : s.startTx.st = .shift := rfl
@[simp] theorem BuiltState.startTx_animOn (s : BuiltState n) : s.startTx.animOn = s.animOn := rfl
@[simp] theorem BuiltState.startTx_animSym (s : BuiltState n) : s.startTx.animSym = s.animSym := rfl
@[simp] theorem BuiltState.startTx_animR (s : BuiltState n) : s.startTx.animR = s.animR := rfl
@[simp] theorem BuiltState.startTx_animG (s : BuiltState n) : s.startTx.animG = s.animG := rfl
@[simp] theorem BuiltState.startTx_animB (s : BuiltState n) : s.startTx.animB = s.animB := rfl
@[simp] theorem BuiltState.startTx_frame (s : BuiltState n) : s.startTx.frame = s.frame := rfl
@[simp] theorem BuiltState.startTx_cell (s : BuiltState n) : s.startTx.cell = 0 := rfl
@[simp] theorem BuiltState.startTx_biti (s : BuiltState n) : s.startTx.biti = 23 := rfl
@[simp] theorem BuiltState.startTx_tcnt (s : BuiltState n) : s.startTx.tcnt = 0 := rfl
@[simp] theorem BuiltState.startTx_gcnt (s : BuiltState n) : s.startTx.gcnt = s.gcnt := rfl
@[simp] theorem BuiltState.startTx_inputs (s : BuiltState n) : s.startTx.inputs = s.inputs := rfl
@[simp] theorem BuiltState.startTx_tick (s : BuiltState n) : s.startTx.tick = s.tick := rfl

@[simp] theorem BuiltState.setGrid_st (s : BuiltState n) (on : Bool) (sym : SymField) (c : Color) (f : Vector ColorWord n) : (s.setGrid on sym c f).st = s.st := rfl
@[simp] theorem BuiltState.setGrid_animOn (s : BuiltState n) (on : Bool) (sym : SymField) (c : Color) (f : Vector ColorWord n) : (s.setGrid on sym c f).animOn = on := rfl
@[simp] theorem BuiltState.setGrid_animSym (s : BuiltState n) (on : Bool) (sym : SymField) (c : Color) (f : Vector ColorWord n) : (s.setGrid on sym c f).animSym = sym := rfl
@[simp] theorem BuiltState.setGrid_animR (s : BuiltState n) (on : Bool) (sym : SymField) (c : Color) (f : Vector ColorWord n) : (s.setGrid on sym c f).animR = c.r := rfl
@[simp] theorem BuiltState.setGrid_animG (s : BuiltState n) (on : Bool) (sym : SymField) (c : Color) (f : Vector ColorWord n) : (s.setGrid on sym c f).animG = c.g := rfl
@[simp] theorem BuiltState.setGrid_animB (s : BuiltState n) (on : Bool) (sym : SymField) (c : Color) (f : Vector ColorWord n) : (s.setGrid on sym c f).animB = c.b := rfl
@[simp] theorem BuiltState.setGrid_frame (s : BuiltState n) (on : Bool) (sym : SymField) (c : Color) (f : Vector ColorWord n) : (s.setGrid on sym c f).frame = f := rfl
@[simp] theorem BuiltState.setGrid_cell (s : BuiltState n) (on : Bool) (sym : SymField) (c : Color) (f : Vector ColorWord n) : (s.setGrid on sym c f).cell = s.cell := rfl
@[simp] theorem BuiltState.setGrid_biti (s : BuiltState n) (on : Bool) (sym : SymField) (c : Color) (f : Vector ColorWord n) : (s.setGrid on sym c f).biti = s.biti := rfl
@[simp] theorem BuiltState.setGrid_tcnt (s : BuiltState n) (on : Bool) (sym : SymField) (c : Color) (f : Vector ColorWord n) : (s.setGrid on sym c f).tcnt = s.tcnt := rfl
@[simp] theorem BuiltState.setGrid_gcnt (s : BuiltState n) (on : Bool) (sym : SymField) (c : Color) (f : Vector ColorWord n) : (s.setGrid on sym c f).gcnt = s.gcnt := rfl
@[simp] theorem BuiltState.setGrid_inputs (s : BuiltState n) (on : Bool) (sym : SymField) (c : Color) (f : Vector ColorWord n) : (s.setGrid on sym c f).inputs = s.inputs := rfl
@[simp] theorem BuiltState.setGrid_tick (s : BuiltState n) (on : Bool) (sym : SymField) (c : Color) (f : Vector ColorWord n) : (s.setGrid on sym c f).tick = s.tick := rfl

/-! The registers of this hardware as the machine of its parameter set holds them. -/

@[simp] theorem State.built_st (s : State) : s.built.st = s.st := rfl
@[simp] theorem State.built_animOn (s : State) : s.built.animOn = s.animOn := rfl
@[simp] theorem State.built_animSym (s : State) : s.built.animSym = s.animSym := rfl
@[simp] theorem State.built_animR (s : State) : s.built.animR = s.animR := rfl
@[simp] theorem State.built_animG (s : State) : s.built.animG = s.animG := rfl
@[simp] theorem State.built_animB (s : State) : s.built.animB = s.animB := rfl
@[simp] theorem State.built_frame (s : State) : s.built.frame = s.frame := rfl
@[simp] theorem State.built_cell (s : State) : s.built.cell = s.cell.toNat := rfl
@[simp] theorem State.built_biti (s : State) : s.built.biti = s.biti.toNat := rfl
@[simp] theorem State.built_tcnt (s : State) : s.built.tcnt = s.tcnt.toNat := rfl
@[simp] theorem State.built_gcnt (s : State) : s.built.gcnt = s.gcnt.toNat := rfl
@[simp] theorem State.built_inputs (s : State) : s.built.inputs = s.inputs := rfl
@[simp] theorem State.built_tick (s : State) : s.built.tick = s.tick := rfl
@[simp] theorem State.built_inputAt (s : State) (k : Nat) : s.built.inputAt k = s.inputAt k := rfl
@[simp] theorem State.built_input (s : State) : s.built.input = s.input := rfl

/-! What the operations of a built machine can do. -/

theorem BuiltState.inputAt_elapse (s : BuiltState n) (k : Nat) : s.elapse.inputAt k = s.inputAt (k + 1) := by
  simp [inputAt, sampleAt, Nat.add_assoc, Nat.add_comm 1 k]

/-- A render does nothing, or all of R162. -/
theorem builtRender_cases (p : ParamSet) (s : BuiltState p.n) (sym : SymField) (c : Color) :
    (10 ≤ sym.toNat ∧ builtRender p s sym c = s) ∨
    ∃ k, selectSymbol sym = some k ∧
      builtRender p s sym c = (s.setGrid true sym c (frameBy p.n p.platform k (toWordBy p.gammaLut c))).startTx := by
  by_cases h : sym.toNat < 10
  · exact .inr ⟨_, selectSymbol_of_lt h, by simp [builtRender, selectSymbol_of_lt h]⟩
  · exact .inl ⟨by omega, by simp [builtRender, selectSymbol_of_ge (Nat.not_lt.mp h)]⟩

@[simp] theorem builtGood_iff (p : ParamSet) (ok : Bool) :
    builtGood p ok = true ↔ ok = true ∧ p.platform.patLen = p.n := by
  simp [builtGood]

/-- The check of a built machine (R132): good enters the gap, bad halts. -/
theorem builtUninit_cases (p : ParamSet) (ok : Bool) (s : BuiltState p.n) :
    (ok = true ∧ p.platform.patLen = p.n ∧ builtUninit p ok s = s.enterGap) ∨
    (¬ (ok = true ∧ p.platform.patLen = p.n) ∧ builtUninit p ok s = s.halt) := by
  by_cases h : ok = true ∧ p.platform.patLen = p.n
  · exact .inl ⟨h.1, h.2, by simp [builtUninit, h]⟩
  · exact .inr ⟨h, by simp [builtUninit, h]⟩

theorem builtCore_run_succ (p : ParamSet) (k : Nat) (s : BuiltState p.n) :
    (builtCore p).run (k + 1) s = (builtCore p).run k (builtNext p s.input s.elapse) := rfl

/-! The log: one tick, then the rest. -/

theorem eventLog_succ {s t : State} (inTx : Bool) (m k : Nat) (h : step s = .next t) :
    eventLog inTx m (k + 1) s = tickEvents inTx m s ++ eventLog (burstGoesOn inTx s.st t.st) (m + 1) k t := by
  simp [eventLog, h, nextInTx]

theorem builtEventLog_succ (p : ParamSet) (inTx : Bool) (m k : Nat) (s : BuiltState p.n) :
    builtEventLog p inTx m (k + 1) s = builtTickEvents p inTx m s ++
      builtEventLog p (burstGoesOn inTx s.st (builtNext p s.input s.elapse).st) (m + 1) k (builtNext p s.input s.elapse) := rfl

end Sys2Proof.Machine
end

