-- ==== Sys2Proof/Laws/Encoding.lean ====
section
/-! SUPPORT. Reading a field of a packed command word gives the field (30_encoding.md R70). -/

namespace Sys2Proof

section Fields
variable (op : BitVec 4) (sym : SymField) (chr : Byte) (r g b : ChanCode)

/-- A packed word as a sum: each field at its place. -/
theorem toNat_packCmd : (packCmd op sym chr r g b).toNat =
    op.toNat * 2 ^ 60 + sym.toNat * 2 ^ 56 + chr.toNat * 2 ^ 48 + r.toNat * 2 ^ 32 +
      g.toNat * 2 ^ 16 + b.toNat := by
  simp only [packCmd, BitVec.toNat_append]
  have h1 := sym.isLt; have h2 := chr.isLt; have h3 := r.isLt; have h4 := g.isLt; have h5 := b.isLt
  rw [← Nat.shiftLeft_add_eq_or_of_lt h1, ← Nat.shiftLeft_add_eq_or_of_lt h2,
    ← Nat.shiftLeft_add_eq_or_of_lt h3, ← Nat.shiftLeft_add_eq_or_of_lt h4,
    ← Nat.shiftLeft_add_eq_or_of_lt h5]
  simp only [Nat.shiftLeft_eq]
  omega

@[simp] theorem opOf_packCmd : opOf (packCmd op sym chr r g b) = op := by
  apply BitVec.eq_of_toNat_eq
  have := toNat_packCmd op sym chr r g b
  simp only [opOf, BitVec.extractLsb'_toNat, Nat.shiftRight_eq_div_pow, this]
  omega

@[simp] theorem symOf_packCmd : symOf (packCmd op sym chr r g b) = sym := by
  apply BitVec.eq_of_toNat_eq
  have := toNat_packCmd op sym chr r g b
  simp only [symOf, BitVec.extractLsb'_toNat, Nat.shiftRight_eq_div_pow, this]
  omega

@[simp] theorem chrOf_packCmd : chrOf (packCmd op sym chr r g b) = chr := by
  apply BitVec.eq_of_toNat_eq
  have := toNat_packCmd op sym chr r g b
  simp only [chrOf, BitVec.extractLsb'_toNat, Nat.shiftRight_eq_div_pow, this]
  omega

@[simp] theorem rOf_packCmd : rOf (packCmd op sym chr r g b) = r := by
  apply BitVec.eq_of_toNat_eq
  have := toNat_packCmd op sym chr r g b
  simp only [rOf, BitVec.extractLsb'_toNat, Nat.shiftRight_eq_div_pow, this]
  omega

@[simp] theorem gOf_packCmd : gOf (packCmd op sym chr r g b) = g := by
  apply BitVec.eq_of_toNat_eq
  have := toNat_packCmd op sym chr r g b
  simp only [gOf, BitVec.extractLsb'_toNat, Nat.shiftRight_eq_div_pow, this]
  omega

@[simp] theorem bOf_packCmd : bOf (packCmd op sym chr r g b) = b := by
  apply BitVec.eq_of_toNat_eq
  have := toNat_packCmd op sym chr r g b
  simp only [bOf, BitVec.extractLsb'_toNat, Nat.shiftRight_eq_div_pow, this]
  omega

end Fields

end Sys2Proof
end

