-- ==== Sys2Proof/Laws/PerInstr.lean ====
section
/-! SUPPORT. Statements made instruction by instruction. PortWord: the word that brings an instruction to the command port has the instruction's operation code in bits 63:60 (30_encoding.md R72). -/

namespace Sys2Proof.Laws.PortWord

def Statement (i : Instr) : Prop := opOf (portWord (encode i)) = opNumber i

theorem nop : Statement .nop := by simp [Statement, encode, portWord, opNumber]
theorem digit (d : SymField) : Statement (.digit d) := by simp [Statement, encode, portWord, opNumber]
theorem pwron : Statement .pwron := by simp [Statement, encode, portWord, opNumber]
theorem pwroff : Statement .pwroff := by simp [Statement, encode, portWord, opNumber]
theorem render (s : SymField) (r g b : ChanCode) : Statement (.render s r g b) := by simp [Statement, encode, portWord, opNumber]
theorem clear : Statement .clear := by simp [Statement, encode, portWord, opNumber]
theorem char (c : Byte) : Statement (.char c) := by simp [Statement, encode, portWord, opNumber]
theorem reserved7 : Statement .reserved7 := by simp [Statement, encode, portWord, opNumber]
theorem reserved8 : Statement .reserved8 := by simp [Statement, encode, portWord, opNumber]
theorem reserved9 : Statement .reserved9 := by simp [Statement, encode, portWord, opNumber]
theorem reserved10 : Statement .reserved10 := by simp [Statement, encode, portWord, opNumber]
theorem reserved11 : Statement .reserved11 := by simp [Statement, encode, portWord, opNumber]
theorem reserved12 : Statement .reserved12 := by simp [Statement, encode, portWord, opNumber]
theorem reserved13 : Statement .reserved13 := by simp [Statement, encode, portWord, opNumber]
theorem reserved14 : Statement .reserved14 := by simp [Statement, encode, portWord, opNumber]
theorem reserved15 : Statement .reserved15 := by simp [Statement, encode, portWord, opNumber]
theorem charDigit0 : Statement .charDigit0 := by simp [Statement, encode, portWord, opNumber]
theorem charDigit1 : Statement .charDigit1 := by simp [Statement, encode, portWord, opNumber]
theorem charDigit2 : Statement .charDigit2 := by simp [Statement, encode, portWord, opNumber]
theorem charDigit3 : Statement .charDigit3 := by simp [Statement, encode, portWord, opNumber]
theorem charDigit4 : Statement .charDigit4 := by simp [Statement, encode, portWord, opNumber]
theorem charDigit5 : Statement .charDigit5 := by simp [Statement, encode, portWord, opNumber]
theorem charDigit6 : Statement .charDigit6 := by simp [Statement, encode, portWord, opNumber]
theorem charDigit7 : Statement .charDigit7 := by simp [Statement, encode, portWord, opNumber]
theorem charDigit8 : Statement .charDigit8 := by simp [Statement, encode, portWord, opNumber]
theorem charDigit9 : Statement .charDigit9 := by simp [Statement, encode, portWord, opNumber]
theorem charUpperL : Statement .charUpperL := by simp [Statement, encode, portWord, opNumber]
theorem charLowerL : Statement .charLowerL := by simp [Statement, encode, portWord, opNumber]
theorem charUpperD : Statement .charUpperD := by simp [Statement, encode, portWord, opNumber]
theorem charLowerD : Statement .charLowerD := by simp [Statement, encode, portWord, opNumber]
theorem charOther (c : Byte) : Statement (.charOther c) := by simp [Statement, encode, portWord, opNumber]

end Sys2Proof.Laws.PortWord
end

