-- ==== Sys2Proof/Tests/Slice0.lean ====
section
/-! SUPPORT. Tests. The expected results are the spec's: the encodings of spec/opcode_table.json and 30_encoding.md, the vectors V2 to V8 of 95_test_vectors.md (for the reference platform where a vector says so), the table of R81. At the end, a witness of the hypotheses of every statement that has some. -/

namespace Sys2Proof.Tests

open Sys2Proof.Machine Sys2Proof.Safety
open Sys2Proof.Config (Platform Input N referencePlatform)

/-! ## States and inputs for the tests -/

/-- A ready block, Off. -/
def idle : State := { State.reset with st := .idle }
/-- A block at a position of a burst of the all-zero frame. -/
def shiftAt (cell biti : BitVec 5) (tcnt : BitVec 2) : State :=
  { State.reset with st := .shift, cell := cell, biti := biti, tcnt := tcnt }
/-- A block in a gap. -/
def gapAt (g : BitVec 7) : State := { State.reset with st := .gap, gcnt := g }
/-- The host presents a word. -/
def presents (cw : CmdWord) : Input := { rst := false, cfgChanOk := true, cmdValid := true, cmd := cw }
/-- The host holds reset. -/
def resets : Input := { quietInput true with rst := true }
/-- s, and the host drives i in this tick. -/
def driving (s : State) (i : Input) : State := { s with inputs := [i] }
/-- A Bool read from a result; a stop reads false. -/
def gives (r : Result) (f : State → Bool) : Bool :=
  match r with
  | .next t => f t
  | .fault _ | .refused _ => false
/-- A frame with a word at the listed cells and 0 elsewhere. -/
def frameOf (w : ColorWord) (cells : List Nat) : Frame := Vector.ofFn fun i => if cells.contains i.val then w else 0
/-- The position registers as the vectors V6 write them. -/
def position (s : State) : TopState × Nat × Nat × Nat × Nat :=
  (s.st, s.cell.toNat, s.biti.toNat, s.tcnt.toNat, s.gcnt.toNat)

/-! ## Well-formedness: each check refuses an ill-formed term -/

theorem test_wf_other_refuses_listed_codes : selectingCodes.all (fun c => !(Instr.charOther c).wf) = true := by decide
theorem test_wf_other_accepts_neighbours :
    ([0x2F, 0x3A, 0x4B, 0x4D, 0x6B, 0x6D, 0x43, 0x45, 0x63, 0x65, 0x00, 0xFF] : List Byte).all
      (fun c => (Instr.charOther c).wf) = true := by decide
/-- A small stand-in for the hardware's set, its gamma table constant past both ends. -/
def plainSet : Config.ParamSet := { Config.paramSet with gammaLut := fun x => x }
theorem test_params_refuse_n : ({ plainSet with n := 0 } : Config.ParamSet).wf = false := rfl
theorem test_params_refuse_nsym : ({ plainSet with nsym := 16 } : Config.ParamSet).wf = false := rfl
theorem test_params_refuse_t0h : ({ plainSet with t0h := 0, t0l := 3 } : Config.ParamSet).wf = false := rfl
theorem test_params_refuse_t0l : ({ plainSet with t0l := 0, t0h := 3 } : Config.ParamSet).wf = false := rfl
theorem test_params_refuse_t1h : ({ plainSet with t1h := 0, t1l := 3 } : Config.ParamSet).wf = false := rfl
theorem test_params_refuse_t1l : ({ plainSet with t1l := 0, t1h := 3 } : Config.ParamSet).wf = false := rfl
theorem test_params_refuse_zero_sum : ({ plainSet with t0l := 3 } : Config.ParamSet).wf = false := rfl
theorem test_params_refuse_one_sum : ({ plainSet with t1l := 2 } : Config.ParamSet).wf = false := rfl
theorem test_params_refuse_equal_highs : ({ plainSet with t1h := 1, t1l := 2 } : Config.ParamSet).wf = false := rfl
theorem test_params_refuse_treset : ({ plainSet with tReset := 0 } : Config.ParamSet).wf = false := rfl
theorem test_params_refuse_gamma_start : Config.gammaWf (fun _ => 255) = false := rfl
theorem test_params_refuse_gamma_end : Config.gammaWf (fun _ => 0) = false := rfl
theorem test_params_refuse_gamma_dip : Config.gammaWf (fun x => if x = 1 then 9 else x) = false := rfl
/-- R7: a mismatch of PAT_LEN is no part of well-formedness. -/
theorem test_params_accept_pat_len_mismatch : ({ plainSet with platform := { referencePlatform with patLen := 24 } } : Config.ParamSet).wf = true := by
  decide +kernel
/-- The set of the hardware with rows of 24 cells (V6.4): it builds, and halts. -/
def shortRows : Config.ParamSet := { plainSet with platform := { referencePlatform with patLen := 24 } }
theorem test_build_refuses_ill_formed : build { shortRows with tReset := 0 } = .error .notWellFormed := rfl
theorem test_build_refuses_other_formats : build { shortRows with wordW := 32 } = .error .otherFormats := by
  have h : ({ shortRows with wordW := 32 } : Config.ParamSet).wf = true := by decide +kernel
  simp only [build, h]
  rfl
theorem test_built_mismatch_halts : (builtNext shortRows (quietInput true) (BuiltState.reset 25)).st = .halted := by decide
/-- V6.4's Halt: the channel is there, the rows are too short. -/
theorem test_built_mismatch_logs_halt : builtTickEvents shortRows false 3 { BuiltState.reset 25 with inputs := [quietInput true] } = [.halt 3] := by decide
/-- Two cells, two ticks a bit's end apart (R135 with N = 2, T_BIT = 4, T_RESET = 1): the last tick of the burst enters the gap. -/
def twoCells : Config.ParamSet := { plainSet with n := 2, tBit := 4, t0l := 3, t1l := 2, tReset := 1, platform := { referencePlatform with patLen := 2 } }
theorem test_built_two_cells : twoCells.wf = true ∧
    (builtShift twoCells { BuiltState.reset 2 with st := .shift, cell := 1, biti := 0, tcnt := 3 }).st = .gap ∧
    (builtShift twoCells { BuiltState.reset 2 with st := .shift, cell := 1, biti := 0, tcnt := 2 }).tcnt = 3 := by decide +kernel

/-! ## Decoding: words written out from the encodings -/

/-- The sixteen `CW64` rows, from the `encoding` column of the opcode table: OP, SYM, CHR, R, G, B. -/
theorem test_decode_plain_commands :
    decodeCmd (0b0000#4 ++ 0b0000#4 ++ 0b00000000#8 ++ 0x0000#16 ++ 0x0000#16 ++ 0x0000#16) = .nop ∧
    decodeCmd (0b0001#4 ++ 0b1001#4 ++ 0b00000000#8 ++ 0x0000#16 ++ 0x0000#16 ++ 0x0000#16) = .digit 9 ∧
    decodeCmd (0b0010#4 ++ 0b1111#4 ++ 0b00110011#8 ++ 0x1234#16 ++ 0x5678#16 ++ 0x9ABC#16) = .pwron ∧
    decodeCmd (0b0011#4 ++ 0b0000#4 ++ 0b00000000#8 ++ 0x0000#16 ++ 0x0000#16 ++ 0x0000#16) = .pwroff ∧
    decodeCmd (0b0100#4 ++ 0b0111#4 ++ 0b00000000#8 ++ 0x0100#16 ++ 0x0080#16 ++ 0xFF80#16) = .render 7 0x0100 0x0080 0xFF80 ∧
    decodeCmd (0b0101#4 ++ 0b1010#4 ++ 0b10111100#8 ++ 0xDEF0#16 ++ 0x1234#16 ++ 0x5678#16) = .clear ∧
    decodeCmd (0b0110#4 ++ 0b1010#4 ++ 0b00110011#8 ++ 0xFFFF#16 ++ 0xFFFF#16 ++ 0xFFFF#16) = .char 0x33 := by decide
theorem test_decode_reserved_commands :
    ([0x7, 0x8, 0x9, 0xA, 0xB, 0xC, 0xD, 0xE, 0xF] : List (BitVec 4)).map (fun op => decodeCmd (op ++ 0#60)) =
      [.reserved7, .reserved8, .reserved9, .reserved10, .reserved11, .reserved12, .reserved13, .reserved14, .reserved15] := by
  decide
/-- V4.12, V4.13, V4.17, V4.18. -/
theorem test_decode_vectors :
    decodeCmd 0xFFFFFFFFFFFFFFFF = .reserved15 ∧ decodeCmd 0x13FFFFFFFFFFFFFF = .digit 3 ∧
    decodeCmd 0x1C00000000000000 = .digit 12 ∧ decodeCmd 0x4A00010001000100 = .render 10 0x0100 0x0100 0x0100 := by decide
/-- R74's table, and V4.22's boundary codes. -/
theorem test_decode_characters :
    ([0x30, 0x31, 0x32, 0x33, 0x34, 0x35, 0x36, 0x37, 0x38, 0x39, 0x4C, 0x6C, 0x44, 0x64] : List Byte).map decodeChr =
      [.charDigit0, .charDigit1, .charDigit2, .charDigit3, .charDigit4, .charDigit5, .charDigit6, .charDigit7,
       .charDigit8, .charDigit9, .charUpperL, .charLowerL, .charUpperD, .charLowerD] := by decide
theorem test_decode_other_characters :
    ([0x2F, 0x3A, 0x4B, 0x4D, 0x6B, 0x6D, 0x43, 0x45, 0x63, 0x65, 0x00, 0x0A, 0x0D, 0x20, 0x7F, 0x80, 0xB0, 0xCC, 0xFF] : List Byte).all
      (fun c => decodeChr c == .charOther c) = true := by decide
theorem test_decode_bytes :
    decodeBytes [0x00, 0x00, 0x00, 0x00, 0x4D, 0x00, 0x00, 0x43] = .ok (.render 3 0x004D 0 0) ∧
    decodeBytes [0x64] = .ok .charLowerD := ⟨rfl, rfl⟩
theorem test_decode_bytes_rejects_by_name :
    decodeBytes [] = .error (.noFormatOfLength 0) ∧ decodeBytes [0, 0, 0, 0] = .error (.noFormatOfLength 4) := ⟨rfl, rfl⟩
/-- The field order of R70 (V4.6). -/
theorem test_fields : packCmd 4 7 0 0x0100 0x0080 0xFF80 = 0x470001000080FF80 := by decide

/-! ## The table's words run as the next instruction after reset -/

theorem test_table_words :
    decodeTableWord 64 0x4000000000000000 = some (.render 0 0 0 0) ∧ decodeTableWord 64 0x6000000000000000 = some (.char 0) ∧
    decodeTableWord 64 0xF000000000000000 = some .reserved15 ∧ decodeTableWord 8 0x39 = some .charDigit9 ∧
    decodeTableWord 8 0x00 = some (.charOther 0) ∧ decodeTableWord 72 0 = none := by decide
theorem test_fetch_word_render : ∃ t, step (State.reset.withFetchWord 64 0x4000000000000000) = .next t ∧ t.st = .shift :=
  ⟨_, rfl, rfl⟩
theorem test_fetch_word_character : ∃ t, step (State.reset.withFetchWord 8 0x44) = .next t ∧ t.st = .shift := ⟨_, rfl, rfl⟩
theorem test_fetch_word_other_character : ∃ t, step (State.reset.withFetchWord 8 0x00) = .next t ∧ t.st = .idle := ⟨_, rfl, rfl⟩

/-! ## The Color Model (V2) -/

theorem test_chan_codes_from_zero :
    ([0x0000, 0x0001, 0x0002, 0x0040, 0x004C, 0x004D, 0x004E, 0x007F, 0x0080, 0x0081, 0x0082, 0x00C0, 0x00FE, 0x00FF,
      0x0100, 0x0101, 0x0200, 0x7FFF] : List ChanCode).map chan =
      [0x00, 0x01, 0x02, 0x40, 0x4C, 0x4D, 0x4E, 0x7F, 0x80, 0x80, 0x81, 0xBF, 0xFD, 0xFE, 0xFF, 0xFF, 0xFF, 0xFF] := by
  decide
/-- R114 with R116 and the identity table of R113, on every code from 0.0 to 1.0. -/
theorem test_chan_every_step : (List.range 257).all (fun k => (chan (BitVec.ofNat 16 k)).toNat == if k ≤ 128 then k else k - 1) = true := by
  decide +kernel
theorem test_chan_negative_codes : ([0x8000, 0xFF00, 0xFF80, 0xFFFF] : List ChanCode).map chan = [0, 0, 0, 0] := by decide
/-- V2.24 to V2.29. -/
theorem test_scale : [77, 128, 129, 255, 256, 0].map scale = [77, 128, 128, 254, 255, 0] := by decide
/-- V2.30 to V2.40. -/
theorem test_to_word :
    ([⟨0x004D, 0, 0⟩, ⟨0, 0, 0⟩, ⟨0x0100, 0x0100, 0x0100⟩, ⟨0x0100, 0, 0⟩, ⟨0, 0x0100, 0⟩, ⟨0, 0, 0x0100⟩,
      ⟨0x0100, 0x0080, 0xFF80⟩, ⟨0x0040, 0x00C0, 0x7FFF⟩, ⟨0x8000, 0x7FFF, 0x0080⟩, ⟨0x0040, 0x00C0, 0xFFFF⟩,
      ⟨0x0080, 0x0081, 0x0082⟩] : List Color).map toWord =
      [0x004D00, 0x000000, 0xFFFFFF, 0x00FF00, 0xFF0000, 0x0000FF, 0x80FF00, 0xBF40FF, 0xFF0080, 0xBF4000, 0x808081] := by
  decide

/-! ## The reference Pattern Table (V3; R104) -/

/-- The lit cells of a symbol. -/
def litCells (s : Symbol) : List Nat := (List.range N).filter (lookup referencePlatform s)
theorem test_lookup_first_five :
    litCells 0 = [1, 2, 3, 6, 8, 11, 13, 16, 18, 21, 22, 23] ∧ litCells 1 = [2, 6, 7, 12, 17, 21, 22, 23] ∧
    litCells 2 = [1, 2, 3, 8, 11, 12, 13, 16, 21, 22, 23] ∧ litCells 3 = [1, 2, 3, 8, 11, 12, 13, 18, 21, 22, 23] ∧
    litCells 4 = [1, 3, 6, 8, 11, 12, 13, 18, 23] := by decide
theorem test_lookup_last_five :
    litCells 5 = [1, 2, 3, 6, 11, 12, 13, 18, 21, 22, 23] ∧ litCells 6 = [1, 2, 3, 6, 11, 12, 13, 16, 18, 21, 22, 23] ∧
    litCells 7 = [1, 2, 3, 8, 13, 18, 23] ∧ litCells 8 = [1, 2, 3, 6, 8, 11, 12, 13, 16, 18, 21, 22, 23] ∧
    litCells 9 = [1, 2, 3, 6, 8, 11, 12, 13, 18, 21, 22, 23] := by decide
theorem test_scan_maps : scanIndex false 1 0 = 5 ∧ scanIndex true 1 0 = 9 ∧ scanIndex true 2 3 = 13 := by decide

/-! ## Commands on the reference platform (V7) -/

/-- `W3` of V7. -/
def w3 : Frame := frameOf 0x004D00 [1, 2, 3, 8, 11, 12, 13, 18, 21, 22, 23]
def c0 : Color := ⟨0x004D, 0, 0⟩
/-- V7.3, V7.4. -/
theorem test_render_three : doRender referencePlatform idle 3 c0 =
    { idle with st := .shift, animOn := true, animSym := 3, animR := 0x004D, frame := w3 } := by decide
/-- V7.11. -/
theorem test_render_seven_frame : (doRender referencePlatform idle 7 ⟨0x0100, 0x0080, 0xFF80⟩).frame =
    frameOf 0x80FF00 [1, 2, 3, 8, 13, 18, 23] := by decide
/-- V7.12, V7.13: the state is On, the stored codes are not clamped. -/
theorem test_render_dark_colour : doRender referencePlatform idle 4 ⟨0xFFFF, 0xFF00, 0x8000⟩ =
    { idle with st := .shift, animOn := true, animSym := 4, animR := 0xFFFF, animG := 0xFF00, animB := 0x8000 } := by decide
/-- V7.6, V7.7. -/
theorem test_clear_from_on : doClear (doRender referencePlatform idle 3 c0) = { idle with st := .shift } := by decide
/-- V7.16 and V7.15: 'l' is symbol 0, '3' is symbol 3. -/
theorem test_character_selection :
    (execCharacter referencePlatform idle 0x6C).animSym = 0 ∧ (execCharacter referencePlatform idle 0x6C).animOn = true ∧
    execCharacter referencePlatform idle 0x33 = doRender referencePlatform idle 3 c0 := by decide
/-- V7.18, V8.2. -/
theorem test_no_effect : execCharacter referencePlatform idle 0x78 = idle ∧ doRender referencePlatform idle 12 c0 = idle := by decide
/-- V7.5: `PWRON` from On(5, c) shows 0. -/
theorem test_pwron_forgets : gives (exec .pwron (doRender referencePlatform idle 5 c0)) (fun t => t.animSym == 0 && t.animOn) = true := rfl
theorem test_digit_nine_renders : gives (exec (.digit 9) idle) (fun t => t.animSym == 9 && t.st == .shift) = true := rfl
theorem test_digit_ten_does_nothing : gives (exec (.digit 10) idle) (fun t => t == idle) = true := by decide
theorem test_render_stores_codes : gives (exec (.render 1 2 3 4) idle) (fun t => t.animR == 2 && t.animG == 3 && t.animB == 4) = true := rfl
theorem test_pwroff_transmits : gives (exec .pwroff idle) (fun t => t == { idle with st := .shift }) = true := by decide
theorem test_clear_transmits : gives (exec .clear idle) (fun t => t == { idle with st := .shift }) = true := by decide
/-- A block that shows 3; a reserved code leaves it so (R177, in the manner of V7.20). -/
def showsThree : State := { idle with frame := w3, animOn := true, animSym := 3, animR := 0x004D }
theorem test_reserved_nine : gives (exec .reserved9 showsThree) (fun t => t == showsThree) = true := by decide

/-! ## Single steps (V6) -/

theorem test_step_reset : gives (step (driving (shiftAt 12 19 2) resets)) (fun t => position t == (.uninit, 0, 23, 0, 0)) = true := by decide
theorem test_step_uninit_good : gives (step (driving State.reset (quietInput true))) (fun t => position t == (.gap, 0, 23, 0, 0)) = true := by decide
theorem test_step_uninit_bad : gives (step (driving State.reset (quietInput false))) (fun t => position t == (.halted, 0, 23, 0, 0)) = true := by decide
/-- V6.4: PAT_LEN = 24. -/
theorem test_step_uninit_mismatch : (stepUninit { referencePlatform with patLen := 24 } true State.reset).st = .halted := by decide
theorem test_step_halted : gives (step (driving State.reset.halt (presents 0x1300000000000000))) (fun t => t == State.reset.halt.elapse) = true := by decide
theorem test_step_shift_ignores_command : gives (step (driving (shiftAt 0 23 0) (presents 0x5000000000000000))) (fun t => position t == (.shift, 0, 23, 1, 0)) = true := by decide
theorem test_step_shift_next_bit : gives (step (driving (shiftAt 0 23 2) (quietInput true))) (fun t => position t == (.shift, 0, 22, 0, 0)) = true := by decide
theorem test_step_shift_next_cell : gives (step (driving (shiftAt 0 0 2) (quietInput true))) (fun t => position t == (.shift, 1, 23, 0, 0)) = true := by decide
theorem test_step_shift_last : gives (step (driving (shiftAt 24 0 2) (quietInput true))) (fun t => position t == (.gap, 0, 23, 0, 0)) = true := by decide
theorem test_step_gap_counts : gives (step (driving (gapAt 118) (presents 0x5000000000000000))) (fun t => position t == (.gap, 0, 23, 0, 119)) = true := by decide
theorem test_step_gap_last : gives (step (driving (gapAt 119) (quietInput true))) (fun t => position t == (.idle, 0, 23, 0, 0)) = true := by decide
/-- V6.9 to V6.14: `FRAME[0]` is 0x004D00, whose bit 14 is 1. -/
theorem test_dout_pulses :
    [(23, 0), (23, 1), (23, 2), (14, 0), (14, 1), (14, 2)].map
      (fun p : BitVec 5 × BitVec 2 => ({ shiftAt 0 p.1 p.2 with frame := frameOf 0x004D00 [0] } : State).dout) =
      [true, false, false, true, true, false] := by decide
/-- V6.21, V6.22: in the order of the codes of `ST`. -/
theorem test_outputs :
    [State.reset, State.reset.halt, idle, shiftAt 0 23 0, gapAt 0].map (fun s => (s.cmdReady, s.isHalted, s.st.code)) =
      [(false, false, 0), (false, true, 1), (true, false, 2), (false, false, 3), (false, false, 4)] := by decide

/-! ## Waveforms (V5) -/

/-- A waveform as the vectors write it: bits in threes. -/
def shown (n : Nat) : List Bool := (List.range 24).flatMap fun q => if n.testBit (23 - q) then [true, true, false] else [true, false, false]
/-- V5.5: 8 zeros, 01001101, 8 zeros. -/
theorem test_word_wave : wordWave 0x004D00 = shown 0b000000000100110100000000 := by decide
/-- V5.6. -/
theorem test_word_wave_ends : wordWave 0x800001 = shown 0b100000000000000000000001 := by decide
/-- V5.9. -/
theorem test_burst_positions : [0, 1, 2, 3, 71, 72, 873, 1799].map burstPosition =
    [(0, 23, 0), (0, 23, 1), (0, 23, 2), (0, 22, 0), (0, 0, 2), (1, 23, 0), (12, 20, 0), (24, 0, 2)] := by decide
/-- V5.11, and one word read back. -/
theorem test_decoder : runBit 1 = false ∧ runBit 2 = true ∧
    decodeWave (shown 0x800001 ++ List.replicate 120 false ++ shown 0xFFFFFF) = [0x800001] := by decide +kernel

/-! ## Events, the host and the command notation -/

theorem test_events_halt : tickEvents false 0 (driving State.reset (quietInput false)) = [.halt 0] := by decide
theorem test_events_clear : tickEvents false 7 (driving idle (presents 0x5000000000000000)) =
    [.accept 7 0x5000000000000000, .transmit 7 zeroFrame] := by decide
/-- R136: the gap after initialisation logs no `Done`. -/
theorem test_events_done : tickEvents true 9 (driving (gapAt 119) (quietInput true)) = [.done 10] ∧
    tickEvents false 9 (driving (gapAt 119) (quietInput true)) = [] := by decide
theorem test_events_gap_belongs : nextInTx true (shiftAt 24 0 2) (.next (gapAt 0)) = true ∧
    nextInTx true State.reset (.next (gapAt 0)) = false := by decide
theorem test_host_holds : hostDrive true false [.command 5] = (presents 5, [.command 5]) ∧
    hostDrive true true [.command 5, .reset] = (presents 5, [.reset]) := by decide
theorem test_host_waits : hostDrive true true [.wait 0, .wait 2, .reset] = (quietInput true, [.wait 1, .reset]) := by decide
/-- The examples of R81's table, and of R82. -/
def assembled (l : String) : Option HostLine :=
  match readLine l.toList with
  | .ok (some a) => some a.assemble
  | .ok none | .error _ => none
theorem test_assembler_plain :
    assembled "NOP" = some (.command 0) ∧ assembled "DIGIT 3" = some (.command 0x1300000000000000) ∧
    assembled "PWRON" = some (.command 0x2000000000000000) ∧ assembled "OFF" = some (.command 0x3000000000000000) ∧
    assembled "CLEAR ; dark" = some (.command 0x5000000000000000) ∧ assembled "WAIT 12" = some (.wait 12) ∧
    assembled "RESET" = some .reset := by decide
theorem test_assembler_render :
    assembled "RENDER 3, 0x004D, 0, 0" = some (.command 0x4300004D00000000) ∧
    assembled "RENDER 7, 1.0, 0.5, -0.5" = some (.command 0x470001000080FF80) ∧
    assembled "RENDER 4, -1, -256, 0x8000" = some (.command 0x4400FFFFFF008000) := by decide
theorem test_assembler_char :
    assembled "CHAR '3'" = some (.command 0x6033000000000000) ∧ assembled "CHAR 'd'" = some (.command 0x6064000000000000) ∧
    assembled "CHAR 0x4C" = some (.command 0x604C000000000000) := by decide
/-- R81 admits any quoted character; what stands between quotes separates nothing (log entry 18). -/
theorem test_assembler_quoted_separators :
    assembled "CHAR ','" = some (.command 0x602C000000000000) ∧ assembled "CHAR ';'" = some (.command 0x603B000000000000) ∧
    assembled "CHAR ' '" = some (.command 0x6020000000000000) := by decide
/-- V2.41 to V2.48. -/
theorem test_real_literals :
    [ChanLit.real 3 1, .real 10 1, .real 5 1, .real (-5) 1, .real 25 2, .real 75 2, .real 15 1, .real 1 1].map ChanLit.chanCode =
      [0x004D, 0x0100, 0x0080, 0xFF80, 0x0040, 0x00C0, 0x0180, 0x001A] := by decide
/-- Spellings of log entry 18: leading zeros, the ends of the decimal codes, and the n of `WAIT`. -/
theorem test_assembler_number_spellings :
    ["-32768", "-032768", "032767"].map (fun l => (readChan l.toList).map ChanLit.chanCode) = [some 0x8000, some 0x8000, some 0x7FFF] ∧
    ["-32769", "32768"].map (fun l => readChan l.toList) = [none, none] ∧
    assembled "WAIT 0x10" = some (.wait 16) ∧ assembled "WAIT 010" = some (.wait 10) := by decide
theorem test_assembler_rejects_by_name :
    readLine "DIGIT 16".toList = .error .badOperands ∧ readLine "digit 3".toList = .error .noSuchMnemonic ∧
    readLine "  ; nothing".toList = .ok none := by decide

/-! ## Witnesses: concrete states and operands that meet the hypotheses of the statements -/

theorem witness_round_trip : (Instr.charOther 0x78).wf = true ∧ (Instr.digit 15).wf = true := by decide
theorem witness_character_table : (0x3A : Byte) ∉ selectingCodes ∧ (0x2F : Byte) ∉ selectingCodes := by decide
/-- A line that assembles to a word of each kind of operation, and two words that differ in fields that `DIGIT`, `RENDER`, `CHAR` and `NOP` do not read. -/
theorem witness_ignored_fields :
    (∃ w, AsmLine.assemble (.digit 3) = .command w ∧ opOf w ≠ 6 ∧ opOf w ≠ 4) ∧
    (∃ w, AsmLine.assemble (.char 3) = .command w ∧ opOf w ≠ 1 ∧ opOf w ≠ 4) ∧
    ((1 : BitVec 4) = 1 ∨ (1 : BitVec 4) = 4 → (3 : SymField) = 3) ∧ ((1 : BitVec 4) = 6 → (0 : Byte) = 255) ∧
    ((1 : BitVec 4) = 4 → (0 : ChanCode) = 1 ∧ (0 : ChanCode) = 1 ∧ (0 : ChanCode) = 1) :=
  ⟨⟨_, rfl, by decide⟩, ⟨_, rfl, by decide⟩, by decide⟩
theorem witness_accept : idle.st = .idle ∧ (driving idle (presents 0x1300000000000000)).input = presents 0x1300000000000000 ∧
    decode (.cw64 0x1300000000000000) = .digit 3 ∧ (Instr.digit 3).wf = true := by decide
theorem witness_accept_character : opOf 0x6033000000000000 = 6 ∧ decode (.chr8 (chrOf 0x6033000000000000)) = .charDigit3 ∧
    (driving idle (presents 0x6033000000000000)).input.cmd = 0x6033000000000000 := by decide
theorem witness_placed_word : decodeTableWord 64 0x5000000000000000 = some .clear ∧ decodeTableWord 8 0xFF = some (.charOther 0xFF) := by decide
/-- Two ticks of reset in the middle of a burst, then a tick without: k = 0 and k = 1, and the last clause. -/
def twiceReset : State := { shiftAt 12 19 2 with inputs := [resets, resets, quietInput true] }
theorem witness_reset : (twiceReset.inputAt 0).rst = true ∧ (twiceReset.inputAt 1).rst = true ∧
    (twiceReset.inputAt 2).rst = false := by decide
theorem witness_initialisation : (driving State.reset (quietInput true)).st = .uninit ∧
    (driving State.reset (quietInput true)).input.rst = false ∧ (quietInput true).cfgChanOk = true ∧
    referencePlatform.patLen = N ∧ { referencePlatform with patLen := 24 }.patLen ≠ N ∧ (quietInput false).cfgChanOk = false := by decide

/-- The host drives i for n ticks. -/
def holding (s : State) (i : Input) (n : Nat) : State := { s with inputs := List.replicate n i }
theorem holding_input (s : State) (i : Input) {n k : Nat} (h : k < n) : (holding s i n).inputAt k = i := by
  simp [State.inputAt, sampleAt, holding, h]
theorem holding_noReset (s : State) (ok : Bool) (n : Nat) : noReset (holding s (quietInput ok) n) n := by
  intro k hk
  rw [holding_input s _ hk]
  rfl

theorem witness_halted : (holding State.reset.halt (quietInput true) 5).st = .halted ∧
    noReset (holding State.reset.halt (quietInput true) 5) 5 := ⟨rfl, holding_noReset _ _ _⟩
theorem witness_halted_left : gives (step (driving State.reset.halt resets)) (fun t => t.st == .uninit) = true := by decide
theorem witness_halt_entered : gives (step (driving State.reset (quietInput false))) (fun t => t.st == .halted) = true := by decide
theorem witness_idle : (driving idle (quietInput true)).input.cmdValid = false ∧ (driving idle (presents 0)).input.cmdValid = true := by decide
theorem witness_shift : (driving (shiftAt 24 0 1) (quietInput true)).input.rst = false ∧ (shiftAt 24 0 1).tcnt.toNat < 2 ∧
    (2 ≤ (shiftAt 24 1 2).tcnt.toNat ∧ 0 < (shiftAt 24 1 2).biti.toNat) ∧
    ((shiftAt 23 0 2).biti.toNat = 0 ∧ (shiftAt 23 0 2).cell.toNat < 24) ∧ 24 ≤ (shiftAt 24 0 2).cell.toNat := by decide
theorem witness_gap : (driving (gapAt 118) (quietInput true)).input.rst = false ∧ (gapAt 118).gcnt.toNat < 119 ∧
    119 ≤ (gapAt 119).gcnt.toNat := by decide
theorem witness_busy : (shiftAt 0 23 0).st ≠ .idle ∧ (presents 0x5000000000000000).rst = (driving (shiftAt 0 23 0) (quietInput true)).input.rst ∧
    State.reset.st = .uninit ∧ (presents 0).cfgChanOk = (driving State.reset (quietInput true)).input.cfgChanOk := by decide
theorem witness_strap : (gapAt 0).st ≠ .uninit ∧ State.reset.st = .uninit ∧ (driving State.reset (quietInput true)).input.rst = false ∧
    referencePlatform.patLen = N := by decide
theorem witness_outputs : idle.st ≠ .shift ∧ (shiftAt 24 23 0).st = .shift ∧ (shiftAt 24 23 0).cell.toNat < N ∧ (shiftAt 24 23 0).biti.toNat < 24 := by decide
theorem witness_symbols : (9 : SymField).toNat < 10 ∧ 9 < (10 : SymField).toNat := by decide
theorem witness_characters : (0x30 : Byte).toNat - 0x30 < 10 ∧ 0x30 ≤ (0x30 : Byte).toNat ∧ (0x39 : Byte).toNat - 0x30 < 10 ∧
    ¬ (0x3A : Byte).toNat - 0x30 < 10 ∧ (0x78 : Byte) ∉ selectingCodes ∧ (0x4C : Byte) ∈ selectingCodes ∧ (0x64 : Byte) ∈ selectingCodes := by decide
theorem witness_invalid_selection : opOf 0x1A00000000000000 = 1 ∧ 9 < (symOf 0x1A00000000000000).toNat ∧
    opOf 0x4F00000000000000 = 4 ∧ 9 < (symOf 0x4F00000000000000).toNat ∧
    (driving idle (presents 0x1A00000000000000)).input = presents 0x1A00000000000000 := by decide
theorem witness_animation : gives (step (driving idle (presents 0x5000000000000000))) (fun t => t.st == .shift) = true := by decide
theorem witness_shift_entered : (driving idle (presents 0x5000000000000000)).st ≠ .shift := by decide
theorem witness_one_transmission : transmits (decodeCmd 0x5000000000000000) = true ∧ transmits (decodeCmd 0x1A00000000000000) = false := by decide
theorem witness_clear_after : ∃ t u, exec (.digit 8) idle = .next t ∧ exec .clear t = .next u := ⟨_, _, rfl, rfl⟩
theorem witness_no_bleed : ∃ t u u', idle.gcnt = (shiftAt 3 3 1).gcnt ∧ (0 : SymField).toNat ≤ 9 ∧ (9 : SymField).toNat ≤ 9 ∧
    exec (.render 0 1 2 3) idle = .next t ∧ exec (.render 9 4 5 6) t = .next u ∧ exec (.render 9 4 5 6) (shiftAt 3 3 1) = .next u' :=
  ⟨_, _, _, rfl, by decide, by decide, rfl, rfl, rfl⟩
theorem witness_clear_twice : ∃ t u, exec .clear idle = .next t ∧ exec .clear t = .next u ∧
    decodeCmd (driving idle (presents 0x5000000000000000)).input.cmd = .clear := ⟨_, _, rfl, rfl, by decide⟩
/-- Any position inside a burst of the all-zero frame meets the invariant. -/
theorem shiftAt_inv (c b : BitVec 5) (t : BitVec 2) (hc : c.toNat ≤ 24) (hb : b.toNat ≤ 23) (ht : t.toNat ≤ 2) :
    Inv (shiftAt c b t) := by
  constructor <;> simp [shiftAt, hc, hb, ht, N_eq]
theorem witness_invariant_step : Inv (driving (shiftAt 24 0 2) (quietInput true)) ∧
    gives (step (driving (shiftAt 24 0 2) (quietInput true))) (fun t => t.st == .gap) = true := by
  refine ⟨?_, by decide⟩
  have h := shiftAt_inv 24 0 2 (by decide) (by decide) (by decide)
  exact ⟨h.rest, h.position, h.gapRest, h.gapCount, h.off, h.on, h.unstarted⟩
theorem witness_completion_shift : ∃ s, Inv s ∧ s.st = .shift ∧ noReset s Config.frameTicks := by
  have h := shiftAt_inv 0 23 0 (by decide) (by decide) (by decide)
  exact ⟨holding (shiftAt 0 23 0) (quietInput true) Config.frameTicks,
    ⟨h.rest, h.position, h.gapRest, h.gapCount, h.off, h.on, h.unstarted⟩, rfl, holding_noReset _ _ _⟩
theorem witness_completion_gap : ∃ s, Inv s ∧ s.st = .gap ∧ noReset s Config.tReset := by
  refine ⟨holding (gapAt 119) (quietInput true) Config.tReset, ?_, rfl, holding_noReset _ _ _⟩
  constructor <;> simp [holding, gapAt]
theorem witness_start_up : ∃ s, s.toReset = s ∧ s.input.rst = false ∧ s.input.cfgChanOk = true ∧ noReset s (Config.tReset + 1) := by
  refine ⟨holding State.reset (quietInput true) (Config.tReset + 1), rfl, ?_, ?_, holding_noReset _ _ _⟩ <;>
    rw [State.input, holding_input _ _ (by decide)] <;> rfl
theorem witness_start_up_bad : ∃ s, s.toReset = s ∧ s.input.rst = false ∧ s.input.cfgChanOk = false ∧ noReset s (7 + 1) :=
  ⟨holding State.reset (quietInput false) 8, rfl, rfl, rfl, holding_noReset _ _ _⟩
/-- The host holds `CLEAR` from reset on. -/
def clearHeld : State := holding State.reset (presents 0x5000000000000000) 122
theorem witness_burst_after_reset : clearHeld.toReset = clearHeld ∧
    gives (Sys2Proof.core.run 122 clearHeld) (fun t => position t == (.shift, 0, 23, 0, 0)) = true := by
  refine ⟨rfl, ?_⟩
  decide +kernel
theorem witness_clamp : ((-1 : Int) < 0) ∧ ((256 : Int) < 257) ∧ ((0 : Int) ≤ 256 ∧ (256 : Int) ≤ 256) := by decide
theorem witness_monotone : (0xFFFF : ChanCode).toInt ≤ (0x0000 : ChanCode).toInt := by decide
/-- A block that accepts `CLEAR` and then sees no reset for a whole frame. -/
def clearThenQuiet : State :=
  { idle with inputs := presents 0x5000000000000000 :: List.replicate Config.frameTicks (quietInput true) }
theorem witness_stepping_input : clearThenQuiet.input = presents 0x5000000000000000 := rfl
theorem witness_stepping_noReset : noReset clearThenQuiet (Config.frameTicks + 1) := by
  intro k hk
  cases k with
  | zero => rfl
  | succ k =>
    rw [← State.inputAt_elapse]
    exact holding_noReset { idle with tick := 1 } true Config.frameTicks k (by omega)
theorem witness_stepping_accepts : step clearThenQuiet = .next (doClear clearThenQuiet.elapse) := by
  have h : step clearThenQuiet = stepIdle clearThenQuiet.input clearThenQuiet.elapse := rfl
  rw [h, witness_stepping_input]
  rfl
theorem witness_stepping : ∃ u, clearThenQuiet.st = .idle ∧ clearThenQuiet.input.cmdValid = true ∧
    noReset clearThenQuiet (Config.frameTicks + 1) ∧ step clearThenQuiet = .next u ∧ u.st = .shift :=
  ⟨_, rfl, by rw [witness_stepping_input]; rfl, witness_stepping_noReset, witness_stepping_accepts, rfl⟩
/-- A start-up that meets the second half of the statement on the log. -/
theorem witness_log_start_up : ∃ s, s.toReset = s ∧ s.input.cfgChanOk = true ∧ noReset s (Config.tReset + 1) := by
  refine ⟨holding State.reset (quietInput true) (Config.tReset + 1), rfl, ?_, holding_noReset _ _ _⟩
  rw [State.input, holding_input _ _ (by decide)]
  rfl
theorem witness_gap_entered : gives (step (driving (shiftAt 24 0 2) (quietInput true))) (fun t => t.st == .gap) = true ∧
    gives (step (driving State.reset (quietInput true))) (fun t => t.st == .gap) = true ∧
    gives (step (driving (gapAt 5) (quietInput true))) (fun t => t.st == .gap) = true := by decide
theorem witness_mismatch : shortRows.wf = true ∧ shortRows.formats = true ∧ shortRows.platform.patLen ≠ shortRows.n ∧
    ∃ s : BuiltState shortRows.n, s.toReset = s ∧ ∀ j, j < 0 + 1 → (s.inputAt j).rst = false := by
  refine ⟨by decide +kernel, by decide, by decide, { BuiltState.reset 25 with inputs := [quietInput true] }, rfl, ?_⟩
  intro j hj
  obtain rfl : j = 0 := by omega
  rfl
/-- Both outcomes of the check of a built machine: good, a mismatch, and no channel. -/
theorem witness_built_check :
    (∃ s : BuiltState twoCells.n, s.st = .uninit ∧ s.input.rst = false ∧ s.input.cfgChanOk = true ∧ twoCells.platform.patLen = twoCells.n) ∧
    (∃ s : BuiltState shortRows.n, s.st = .uninit ∧ s.input.rst = false ∧ shortRows.platform.patLen ≠ shortRows.n) ∧
    ∃ s : BuiltState twoCells.n, s.st = .uninit ∧ s.input.rst = false ∧ s.input.cfgChanOk = false :=
  ⟨⟨{ BuiltState.reset 2 with inputs := [quietInput true] }, rfl, rfl, rfl, rfl⟩,
    ⟨{ BuiltState.reset 25 with inputs := [quietInput true] }, rfl, rfl, by decide⟩,
    ⟨{ BuiltState.reset 2 with inputs := [quietInput false] }, rfl, rfl, rfl⟩⟩
theorem witness_other_sets : twoCells.formats = true ∧ ({ twoCells with n := 0 } : Config.ParamSet).wf = false := by decide
theorem witness_built_run : ∃ t, reaches 1 (driving idle.halt (quietInput true)) t := ⟨_, rfl⟩
theorem witness_host_holds : (gapAt 119).st = .gap ∧ (gapAt 119).gcnt.toNat < Config.tReset ∧ idle.st = .idle := by decide

end Sys2Proof.Tests
end

section
/-! PROOFS. The machine built from this hardware's parameter set runs as this model does (00_scope.md R7, R11, R131; log entry 21): reading the registers with State.built commutes with every operation, then with a tick, then with a run and its log. -/

namespace Sys2Proof.Machine

open Sys2Proof.Safety (reaches)

/-! ## The parameters of this hardware as numerals (R6). N also stands in types, so its lemma is used by name. -/

theorem paramSet_n : Config.paramSet.n = 25 := rfl
@[simp] theorem paramSet_tBit : Config.paramSet.tBit = 3 := rfl
@[simp] theorem paramSet_tReset : Config.paramSet.tReset = 120 := rfl

/-! ## The named operations -/

theorem built_reset : State.reset.built = BuiltState.reset Config.paramSet.n := rfl

theorem built_toReset (s : State) : s.toReset.built = s.built.toReset := rfl

theorem built_elapse (s : State) : s.elapse.built = s.built.elapse := rfl

theorem built_doClear (s : State) : (doClear s).built = builtClear s.built := rfl

theorem built_doRender (s : State) (sym : SymField) (c : Color) :
    (doRender Config.platform s sym c).built = builtRender Config.paramSet s.built sym c := by
  unfold doRender builtRender
  cases selectSymbol sym with
  | none => rfl
  | some k => rfl

theorem built_execCharacter (s : State) (c : Byte) :
    (execCharacter Config.platform s c).built = builtCharacter Config.paramSet s.built c := by
  unfold execCharacter builtCharacter
  split_ifs
  · exact built_doRender ..
  · exact built_doRender ..
  · exact built_doClear s
  · rfl

/-- The decoder's rows and the cases of `EXEC`'s pseudocode are the same sixteen (R72, R161). -/
theorem exec_decodeCmd_built (cw : CmdWord) (s : State) :
    ∃ t, exec (decodeCmd cw) s = .next t ∧ builtExec Config.paramSet cw s.built = t.built := by
  unfold decodeCmd builtExec
  match (opOf cw).toNat with
  | 0 => exact ⟨_, rfl, rfl⟩
  | 1 => exact ⟨_, rfl, (built_doRender ..).symm⟩
  | 2 => exact ⟨_, rfl, (built_doRender ..).symm⟩
  | 3 => exact ⟨_, rfl, (built_doClear s).symm⟩
  | 4 => exact ⟨_, rfl, (built_doRender ..).symm⟩
  | 5 => exact ⟨_, rfl, (built_doClear s).symm⟩
  | 6 => exact ⟨_, rfl, (built_execCharacter ..).symm⟩
  | 7 | 8 | 9 | 10 | 11 | 12 | 13 | 14 | _ + 15 => exact ⟨_, rfl, rfl⟩

theorem built_stepUninit (ok : Bool) (s : State) :
    (stepUninit Config.platform ok s).built = builtUninit Config.paramSet ok s.built := by
  unfold stepUninit builtUninit
  cases ok with
  | false => rfl
  | true => rfl

/-- No counter wraps in a burst: each is raised only below its bound and lowered only above 0 (R120). -/
theorem built_stepShift (s : State) : (stepShift s).built = builtShift Config.paramSet s.built := by
  obtain ⟨ht, h⟩ | ⟨ht, hb, h⟩ | ⟨ht, hb, hc, h⟩ | ⟨ht, hb, hc, h⟩ := stepShift_cases s
  · have hmod : (s.tcnt.toNat + 1) % 4 = s.tcnt.toNat + 1 := by omega
    simp [h, builtShift, State.built, ht, hmod]
  · have hmod : (31 + s.biti.toNat) % 32 = s.biti.toNat - 1 := by omega
    simp [h, builtShift, State.built, Nat.not_lt.mpr ht, hb, hmod]
  · have hmod : (s.cell.toNat + 1) % 32 = s.cell.toNat + 1 := by omega
    simp [h, builtShift, State.built, paramSet_n, Nat.not_lt.mpr ht, hb, hc, hmod]
  · simp [h, builtShift, State.built, paramSet_n, Nat.not_lt.mpr ht, hb, Nat.not_lt.mpr hc, BuiltState.enterGap]

/-- `GCNT` does not wrap in a gap (R120). -/
theorem built_stepGap (s : State) : (stepGap s).built = builtGap Config.paramSet s.built := by
  obtain ⟨hg, h⟩ | ⟨hg, h⟩ := stepGap_cases s
  · have hmod : (s.gcnt.toNat + 1) % 128 = s.gcnt.toNat + 1 := by omega
    simp [h, builtGap, State.built, hg, hmod]
  · simp [h, builtGap, State.built, Nat.not_lt.mpr hg]

/-! ## One tick -/

/-- No instruction stops the machine (R79, R205). -/
theorem exec_answers_next (i : Instr) (s : State) : ∃ t, exec i s = .next t := by
  obtain h | ⟨_, _, h⟩ | h := exec_cases i s <;> exact ⟨_, h⟩

/-- No tick stops the machine (R131, R205). -/
theorem step_answers_next (s : State) : ∃ t, step s = .next t := by
  unfold step tickOnce stepWith
  rw [State.elapse_st]
  cases s.input.rst with
  | true => exact ⟨_, rfl⟩
  | false =>
    cases s.st with
    | idle =>
      unfold stepIdle
      cases s.input.cmdValid with
      | true => exact exec_answers_next ..
      | false => exact ⟨_, rfl⟩
    | uninit | halted | shift | gap => exact ⟨_, rfl⟩

/-- The commuting square of a tick: the built machine goes from the registers of s to those of t. -/
theorem builtNext_built {s t : State} (h : step s = .next t) :
    builtNext Config.paramSet s.built.input s.built.elapse = t.built := by
  rw [State.built_input, ← built_elapse]
  obtain ⟨hr, rfl⟩ | ⟨hr, hs, rfl⟩ | ⟨hr, hs, rfl⟩ | ⟨hr, hs, hv, rfl⟩ | ⟨hr, hs, hv, he⟩ |
    ⟨hr, hs, rfl⟩ | ⟨hr, hs, rfl⟩ := step_cases h
  · simp [builtNext, hr, built_toReset]
  · simp [builtNext, hr, hs, built_stepUninit]
  · simp [builtNext, hr, hs]
  · simp [builtNext, hr, hs, hv]
  · obtain ⟨u, hu, hb⟩ := exec_decodeCmd_built s.input.cmd s.elapse
    obtain rfl : u = t := by simpa [hu] using he
    simp [builtNext, hr, hs, hv, hb]
  · simp [builtNext, hr, hs, built_stepShift]
  · simp [builtNext, hr, hs, built_stepGap]

/-! ## Outputs and log -/

theorem built_frameBit (s : State) : s.built.frameBit = s.frameBit := rfl

theorem builtDout_built (s : State) : builtDout Config.paramSet s.built = s.dout := by
  unfold builtDout State.dout
  rw [State.built_st]
  cases s.st with
  | shift => rfl
  | uninit | halted | idle | gap => rfl

theorem builtOutputs_built (s : State) : builtOutputs Config.paramSet s.built = s.outputs := by
  simp [builtOutputs, State.outputs, builtDout_built, State.cmdReady, State.isHalted]

theorem builtTickEvents_built (inTx : Bool) (m : Nat) (s : State) :
    builtTickEvents Config.paramSet inTx m s.built = tickEvents inTx m s := by
  obtain ⟨t, h⟩ := step_answers_next s
  unfold builtTickEvents tickEvents
  rw [builtNext_built h, h]
  rfl

theorem builtEventLog_built (inTx : Bool) (m k : Nat) (s : State) :
    builtEventLog Config.paramSet inTx m k s.built = eventLog inTx m k s := by
  induction k generalizing inTx m s with
  | zero => rfl
  | succ k ih =>
    obtain ⟨t, h⟩ := step_answers_next s
    rw [builtEventLog_succ, eventLog_succ _ _ _ h, builtTickEvents_built, builtNext_built h, ih]
    rfl

/-! ## Runs -/

theorem builtCore_run_built {k : Nat} {s t : State} (h : reaches k s t) :
    (builtCore Config.paramSet).run k s.built = .next t.built := by
  induction k generalizing s with
  | zero => cases h; rfl
  | succ k ih =>
    obtain ⟨u, hu⟩ := step_answers_next s
    rw [reaches, run_succ k hu] at h
    rw [builtCore_run_succ, builtNext_built hu]
    exact ih h

end Sys2Proof.Machine
end

section
/-! PROOFS. Well-formed parameter sets, what is built from them, and the halt of a `PAT_LEN` mismatch (00_scope.md R7; 60_exceptions.md R201, R202). -/

namespace Sys2Proof.Machine

open Sys2Proof.Config (ParamSet gammaWf)

/-! ## The check -/

theorem gammaWf_iff (lut : Byte → Byte) : gammaWf lut = true ↔
    lut 0 = 0 ∧ lut 255 = 255 ∧ ∀ x : Nat, x < 255 → lut (BitVec.ofNat 8 x) ≤ lut (BitVec.ofNat 8 (x + 1)) := by
  simp [gammaWf, and_assoc]

theorem paramSetWf_iff (p : ParamSet) : p.wf = true ↔
    1 ≤ p.n ∧ p.nsym = 10 ∧ 1 ≤ p.t0h ∧ 1 ≤ p.t0l ∧ 1 ≤ p.t1h ∧ 1 ≤ p.t1l ∧
    p.t0h + p.t0l = p.tBit ∧ p.t1h + p.t1l = p.tBit ∧ p.t0h < p.t1h ∧ 1 ≤ p.tReset ∧
    p.gammaLut 0 = 0 ∧ p.gammaLut 255 = 255 ∧
    ∀ x : Nat, x < 255 → p.gammaLut (BitVec.ofNat 8 x) ≤ p.gammaLut (BitVec.ofNat 8 (x + 1)) := by
  simp only [ParamSet.wf, Bool.and_eq_true, decide_eq_true_eq, beq_iff_eq, gammaWf_iff, and_assoc]

/-- The identity table of this hardware (R113) is monotone. -/
theorem gammaWf_gammaLut : gammaWf Config.gammaLut = true := by
  refine (gammaWf_iff _).mpr ⟨rfl, rfl, fun x hx => ?_⟩
  simp only [Config.gammaLut]
  bv_omega

theorem paramSet_wf : Config.paramSet.wf = true := by
  simp [ParamSet.wf, Config.paramSet, gammaWf_gammaLut]

/-! ## Building -/

theorem build_of_not_wf {p : ParamSet} (h : p.wf = false) : build p = .error .notWellFormed := by
  simp [build, h]

theorem build_of_wf {p : ParamSet} (hw : p.wf = true) (hf : p.formats = true) :
    build p = .ok (builtCore p) := by
  simp [build, hw, hf]

/-! ## The halt of a built machine -/

variable {p : ParamSet}

/-- `HALTED` keeps every register while `rst` is low (R133). -/
theorem builtNext_of_halted {s : BuiltState p.n} (hs : s.st = .halted) (hr : s.input.rst = false) :
    builtNext p s.input s.elapse = s.elapse := by
  simp [builtNext, hr, hs]

theorem builtTickEvents_of_halted {s : BuiltState p.n} (hs : s.st = .halted) (inTx : Bool) (m : Nat) :
    builtTickEvents p inTx m s = [] := by
  simp [builtTickEvents, eventsOf, hs]

/-- A failed check halts (R132), on any `PAT_LEN` that is not N. -/
theorem builtNext_of_mismatch {s : BuiltState p.n} (hp : p.platform.patLen ≠ p.n) (hs : s.st = .uninit)
    (hr : s.input.rst = false) : builtNext p s.input s.elapse = s.elapse.halt := by
  simp [builtNext, hr, hs, builtUninit, hp]

theorem builtTickEvents_of_mismatch {s : BuiltState p.n} (hp : p.platform.patLen ≠ p.n) (hs : s.st = .uninit)
    (hr : s.input.rst = false) (inTx : Bool) (m : Nat) : builtTickEvents p inTx m s = [.halt m] := by
  simp [builtTickEvents, eventsOf, hr, hs, hp]

/-- A halted machine stays halted and logs nothing until a reset (R133, R210). -/
theorem builtCore_run_of_halted {k : Nat} {s : BuiltState p.n} (hs : s.st = .halted)
    (hr : ∀ j, j < k → (s.inputAt j).rst = false) :
    ∃ t : BuiltState p.n, (builtCore p).run k s = .next t ∧ t.st = .halted ∧
      ∀ (inTx : Bool) (m : Nat), builtEventLog p inTx m k s = [] := by
  induction k generalizing s with
  | zero => exact ⟨s, rfl, hs, fun _ _ => rfl⟩
  | succ k ih =>
    have hn := builtNext_of_halted hs (hr 0 (Nat.succ_pos k))
    have hr' : ∀ j, j < k → (s.elapse.inputAt j).rst = false := fun j hj => by
      rw [BuiltState.inputAt_elapse]
      exact hr (j + 1) (Nat.succ_lt_succ hj)
    obtain ⟨t, hrun, ht, hlog⟩ := ih (s := s.elapse) hs hr'
    refine ⟨t, ?_, ht, fun inTx m => ?_⟩
    · rw [builtCore_run_succ, hn, hrun]
    · rw [builtEventLog_succ, builtTickEvents_of_halted hs, hn, hlog, List.append_nil]

/-- From reset, a mismatch halts in the first tick, and the `Halt` of that tick is all the log holds (R201). -/
theorem builtCore_run_of_mismatch {k : Nat} {s : BuiltState p.n} (hp : p.platform.patLen ≠ p.n)
    (hs : s.st = .uninit) (hr : ∀ j, j < k + 1 → (s.inputAt j).rst = false) :
    ∃ t : BuiltState p.n, (builtCore p).run (k + 1) s = .next t ∧ t.st = .halted ∧
      ∀ (inTx : Bool) (m : Nat), builtEventLog p inTx m (k + 1) s = [.halt m] := by
  have hr0 := hr 0 (Nat.succ_pos k)
  have hn := builtNext_of_mismatch hp hs hr0
  have hr' : ∀ j, j < k → (s.elapse.halt.inputAt j).rst = false := fun j hj => by
    have : s.elapse.halt.inputAt j = s.elapse.inputAt j := rfl
    rw [this, BuiltState.inputAt_elapse]
    exact hr (j + 1) (Nat.succ_lt_succ hj)
  obtain ⟨t, hrun, ht, hlog⟩ := builtCore_run_of_halted s.elapse.halt_st hr'
  refine ⟨t, ?_, ht, fun inTx m => ?_⟩
  · rw [builtCore_run_succ, hn, hrun]
  · rw [builtEventLog_succ, builtTickEvents_of_mismatch hp hs hr0, hn, hlog, List.append_nil]

end Sys2Proof.Machine
end

section
/-! PROOFS. The statements of 00_scope.md. -/

namespace Sys2Proof.Machine

/-- Settles O60: State.built commutes with every tick, hence with runs and the log. -/
theorem builtMachineIsTheModel : Obligations.BuiltMachineIsTheModel :=
  ⟨build_of_wf paramSet_wf rfl, built_reset, builtOutputs_built,
    fun s inTx m k => builtEventLog_built inTx m k s, fun _ _ _ h => builtCore_run_built h⟩

/-- Settles O56: the check unfolds to R7's clauses; a mismatch halts in the first tick, and a halted machine stays as it is. -/
theorem wellFormedParameters : Obligations.WellFormedParameters :=
  ⟨paramSetWf_iff, paramSet_wf, fun _ h => build_of_not_wf h, fun _ hw hf => build_of_wf hw hf,
    fun _ _ _ hp s _ hs hr => builtCore_run_of_mismatch hp (hs ▸ s.toReset_st) hr⟩

end Sys2Proof.Machine
end

section
/-! PROOFS. The outputs as functions of the state (10_state.md R24), and a tick with `rst = 1` (R35). -/

namespace Sys2Proof.Machine

open Sys2Proof.Config (N)

/-! ## The outputs -/

theorem frameBit_of_inside {s : State} (hc : s.cell.toNat < N) (hb : s.biti.toNat < 24) :
    s.frameBit = s.frame[s.cell.toNat].getLsbD s.biti.toNat := by
  simp [State.frameBit, hc, hb]

theorem dout_of_ne_shift {s : State} (hs : s.st ≠ .shift) : s.dout = false := by
  unfold State.dout
  cases h : s.st with
  | shift => exact absurd h hs
  | uninit | halted | idle | gap => rfl

theorem dout_of_shift {s : State} (hs : s.st = .shift) :
    s.dout = true ↔ s.tcnt.toNat < tHigh s.frameBit := by
  simp [State.dout, hs]

theorem cmdReady_iff (s : State) : s.cmdReady = true ↔ s.st = .idle := beq_iff_eq

theorem isHalted_iff (s : State) : s.isHalted = true ↔ s.st = .halted := beq_iff_eq

/-- No output depends on the inputs of the tick. -/
theorem outputs_present (s : State) (i : Config.Input) : (s.present i).outputs = s.outputs := rfl

theorem outputs_reset : State.reset.outputs =
    { dout := false, cmdReady := false, halted := false, animOn := false, animSym := 0 } := rfl

/-! ## Reset -/

theorem step_of_rst {s : State} (hr : s.input.rst = true) : step s = .next s.elapse.toReset := by
  simp [step, tickOnce, stepWith, hr]

/-- A reset leaves the inputs alone and gives every register its reset value. -/
theorem sameRegisters_toReset (s : State) : Safety.sameRegisters State.reset s.toReset := rfl

end Sys2Proof.Machine
end

section
/-! PROOFS. The invariant of 10_state.md R32: each operation of a tick keeps it. -/

namespace Sys2Proof.Safety

open Sys2Proof.Machine
open Sys2Proof.Config (N)

/-! ## Reset, and the inputs moving on -/

theorem inv_reset : Inv State.reset where
  rest _ := ⟨rfl, rfl, rfl⟩
  position h := nomatch h
  gapRest _ := rfl
  gapCount h := nomatch h
  off _ := ⟨rfl, rfl, rfl, rfl, fun i => zeroFrame_get i i.isLt⟩
  on h := nomatch h
  unstarted _ := rfl

variable {s : State}

/-! The invariant reads the registers only: the inputs may differ. -/

theorem inv_toReset (s : State) : Inv s.toReset := { inv_reset with }

theorem elapse_keeps_inv (h : Inv s) : Inv s.elapse := { h with }

/-! ## The initialisation check -/

theorem halt_keeps_inv (h : Inv s) (hs : s.st = .uninit) : Inv s.halt :=
  { h with
    rest := fun _ => h.rest (by simp [hs])
    position := nofun
    gapRest := fun _ => h.gapRest (by simp [hs])
    gapCount := nofun
    unstarted := fun _ => h.unstarted (.inl hs) }

/-- Both ways into `GAP` (R132, R135) leave the position at rest. -/
theorem enterGap_keeps_inv (h : Inv s) (hrest : s.cell = 0 ∧ s.biti = 23 ∧ s.tcnt = 0) : Inv s.enterGap :=
  { h with
    rest := fun _ => hrest
    position := nofun
    gapRest := fun _ => rfl
    gapCount := fun _ => Nat.zero_le _
    unstarted := nofun }

theorem stepUninit_keeps_inv (h : Inv s) (hs : s.st = .uninit) (p : Config.Platform) (ok : Bool) :
    Inv (stepUninit p ok s) := by
  obtain ⟨-, -, he⟩ | ⟨-, he⟩ := stepUninit_cases p ok s
  · exact he ▸ enterGap_keeps_inv h (h.rest (by simp [hs]))
  · exact he ▸ halt_keeps_inv h hs

/-! ## Commands: what a transmission starts from is the frame of the new Animation State -/

/-- A start of transmission (R164) needs clauses (d) and (e) of R32, and a gap counter at rest. -/
theorem inv_startTx (hg : s.gcnt = 0)
    (hoff : s.animOn = false →
      s.animSym = 0 ∧ s.animR = 0 ∧ s.animG = 0 ∧ s.animB = 0 ∧ ∀ i : Fin N, s.frame[i] = 0)
    (hon : s.animOn = true → ∃ h : s.animSym.toNat < 10, ∀ i : Fin N,
      s.frame[i] = if Config.pat ⟨s.animSym.toNat, h⟩ i then toWord ⟨s.animR, s.animG, s.animB⟩ else 0) :
    Inv s.startTx where
  rest h := absurd rfl h
  position _ := ⟨Nat.zero_le _, Nat.le_refl 23, Nat.zero_le _⟩
  gapRest _ := hg
  gapCount := nofun
  off := hoff
  on := hon
  unstarted := nofun

theorem inv_doClear (hg : s.gcnt = 0) : Inv (doClear s) :=
  inv_startTx hg (fun _ => ⟨rfl, rfl, rfl, rfl, fun i => zeroFrame_get i i.isLt⟩) nofun

theorem doRender_keeps_inv (h : Inv s) (hg : s.gcnt = 0) (sym : SymField) (c : Color) :
    Inv (doRender Config.platform s sym c) := by
  by_cases hsym : sym.toNat < 10
  · rw [doRender_of_some (selectSymbol_of_lt hsym)]
    exact inv_startTx hg nofun fun _ => ⟨hsym, fun i => renderFrame_get Config.platform _ c i i.isLt⟩
  · rw [doRender_of_none (selectSymbol_of_ge (Nat.not_lt.mp hsym))]
    exact h

theorem exec_keeps_inv {t : State} {i : Instr} (h : Inv s) (hg : s.gcnt = 0) (he : exec i s = .next t) : Inv t := by
  obtain hi | ⟨sym, c, hi⟩ | hi := exec_cases i s <;> cases hi.symm.trans he
  · exact h
  · exact doRender_keeps_inv h hg sym c
  · exact inv_doClear hg

/-! ## The counters of SHIFT and GAP -/

/-- In `SHIFT`, a move of the position inside the frame keeps the invariant. -/
theorem setPosition_keeps_inv (h : Inv s) (hs : s.st = .shift) {c b : BitVec 5} {t : BitVec 2}
    (hc : c.toNat ≤ 24) (hb : b.toNat ≤ 23) (ht : t.toNat ≤ 2) :
    Inv { s with cell := c, biti := b, tcnt := t } :=
  { h with
    rest := fun hn => absurd hs hn
    position := fun _ => ⟨hc, hb, ht⟩ }

theorem stepShift_keeps_inv (h : Inv s) (hs : s.st = .shift) : Inv (stepShift s) := by
  obtain ⟨hc, hb, ht⟩ : s.cell.toNat ≤ 24 ∧ s.biti.toNat ≤ 23 ∧ s.tcnt.toNat ≤ 2 := h.position hs
  obtain ⟨hlt, he⟩ | ⟨-, hpos, he⟩ | ⟨-, -, hlt, he⟩ | ⟨-, -, -, he⟩ := stepShift_cases s <;> rw [he]
  · exact setPosition_keeps_inv h hs hc hb (by bv_omega)
  · exact setPosition_keeps_inv h hs hc (by bv_omega) (Nat.zero_le _)
  · exact setPosition_keeps_inv h hs (by bv_omega) (Nat.le_refl 23) (Nat.zero_le _)
  · have hfirst := setPosition_keeps_inv h hs (c := 0) (b := 23) (t := 0)
      (Nat.zero_le _) (Nat.le_refl 23) (Nat.zero_le _)
    exact enterGap_keeps_inv hfirst ⟨rfl, rfl, rfl⟩

theorem stepGap_keeps_inv (h : Inv s) (hs : s.st = .gap) : Inv (stepGap s) := by
  have hrest := h.rest (by simp [hs])
  obtain ⟨hlt, he⟩ | ⟨-, he⟩ := stepGap_cases s <;> rw [he]
  · have hcount : (s.gcnt + 1).toNat ≤ 119 := by bv_omega
    exact { h with
      gapRest := fun hn => absurd hs hn
      gapCount := fun _ => hcount }
  · exact { h with
      rest := fun _ => hrest
      position := nofun
      gapRest := fun _ => rfl
      gapCount := nofun
      unstarted := nofun }

/-! ## The step -/

theorem step_keeps_inv {t : State} (h : Inv s) (hst : step s = .next t) : Inv t := by
  have h' := elapse_keeps_inv h
  obtain ⟨-, rfl⟩ | ⟨-, hs, rfl⟩ | ⟨-, -, rfl⟩ | ⟨-, -, -, rfl⟩ | ⟨-, hs, -, he⟩ | ⟨-, hs, rfl⟩ |
    ⟨-, hs, rfl⟩ := step_cases hst
  · exact inv_toReset _
  · exact stepUninit_keeps_inv h' hs _ _
  · exact h'
  · exact h'
  · exact exec_keeps_inv h' (h.gapRest (by simp [hs])) he
  · exact stepShift_keeps_inv h' hs
  · exact stepGap_keeps_inv h' hs

end Sys2Proof.Safety
end

section
/-! PROOFS. The statements of 10_state.md. -/

namespace Sys2Proof.Safety

open Sys2Proof.Machine

/-- Settles O39: each operation a tick can run keeps the clauses of R32. -/
theorem invariantKeptByEveryStep : Obligations.InvariantKeptByEveryStep :=
  fun _ _ h hst => step_keeps_inv h hst

/-- Settles O38: at reset the block is Off, at rest, and its frame is zero. -/
theorem invariantHoldsAtReset : Obligations.InvariantHoldsAtReset := inv_reset

/-- Settles O12: the values are those of the reset state, and a reset tick leaves it up to the inputs. -/
theorem resetStateValues : Obligations.ResetStateValues :=
  ⟨rfl, rfl, rfl, rfl, rfl, rfl, fun i => zeroFrame_get i i.isLt, rfl, rfl, rfl, rfl, outputs_reset,
    fun s hr => ⟨s.elapse.toReset, step_of_rst hr, sameRegisters_toReset s.elapse⟩⟩

/-- Settles O22: `dout` reads the frame bit inside `SHIFT` and is low elsewhere; the others read `ST` and the Animation State. -/
theorem outputsFollowState : Obligations.OutputsFollowState := by
  refine fun s => ⟨dout_of_ne_shift, fun hs hc hb => ?_, cmdReady_iff s, isHalted_iff s, rfl, outputs_present s⟩
  rw [dout_of_shift hs, frameBit_of_inside hc hb, tHigh]

end Sys2Proof.Safety
end

section
/-! PROOFS. Where a cell index sits on the grid (20_memory.md R55): the row is the index divided by the width of a row, and the scan map turns the remainder into the column. -/

namespace Sys2Proof.Machine

open Sys2Proof.Config (rows cols N)

variable {serpentine : Bool} {row col : Nat}

/-- The place of a column along its row's scan: the serpentine map runs an odd row backwards. -/
def scanOffset (serpentine : Bool) (row col : Nat) : Nat :=
  if serpentine && row % 2 == 1 then cols - 1 - col else col

theorem scanIndex_eq (serpentine : Bool) (row col : Nat) :
    scanIndex serpentine row col = row * cols + scanOffset serpentine row col := by
  unfold scanIndex scanOffset
  split <;> rfl

theorem scanOffset_lt (h : col < cols) : scanOffset serpentine row col < cols := by
  unfold scanOffset
  split <;> omega

/-- Reversing a row twice gives the row back, so `scanOffset` also finds the column at a place. -/
theorem scanOffset_scanOffset (h : col < cols) :
    scanOffset serpentine row (scanOffset serpentine row col) = col := by
  unfold scanOffset
  split <;> omega

theorem scanIndex_div (h : col < cols) : scanIndex serpentine row col / cols = row := by
  have hlt : scanOffset serpentine row col < cols := scanOffset_lt h
  rw [scanIndex_eq, Nat.mul_comm, Nat.mul_add_div (Nat.zero_lt_of_lt h), Nat.div_eq_of_lt hlt, Nat.add_zero]

theorem scanIndex_mod (h : col < cols) : scanIndex serpentine row col % cols = scanOffset serpentine row col := by
  rw [scanIndex_eq, Nat.mul_add_mod_of_lt (scanOffset_lt h)]

theorem scanIndex_eq_iff {i : Nat} (h : col < cols) : scanIndex serpentine row col = i ↔
    row = i / cols ∧ col = scanOffset serpentine (i / cols) (i % cols) := by
  constructor
  · rintro rfl
    rw [scanIndex_div h, scanIndex_mod h, scanOffset_scanOffset h]
    exact ⟨rfl, rfl⟩
  · rintro ⟨rfl, rfl⟩
    rw [scanIndex_eq, scanOffset_scanOffset (Nat.mod_lt i (Nat.zero_lt_of_lt h)), Nat.div_add_mod']

theorem div_cols_lt_rows (i : Fin N) : i.val / cols < rows :=
  Nat.div_lt_of_lt_mul i.isLt

end Sys2Proof.Machine
end

section
/-! PROOFS. The statements of 20_memory.md. -/

namespace Sys2Proof.Machine

open Sys2Proof.Config (cols)

/-- Settles O57: the cell of an index is its quotient and its remainder's column, and it is the only one. -/
theorem scanMapsNumberTheGrid : Obligations.ScanMapsNumberTheGrid := by
  intro serpentine i
  have hcol : scanOffset serpentine (i.val / cols) (i.val % cols) < cols := scanOffset_lt (Nat.mod_lt _ (by decide))
  exact ⟨_, _, div_cols_lt_rows i, hcol, (scanIndex_eq_iff hcol).mpr ⟨rfl, rfl⟩,
    fun _ _ _ hcol' h => (scanIndex_eq_iff hcol').mp h⟩

end Sys2Proof.Machine
end

section
/-! PROOFS. The decoder on the words of both encodings (30_encoding.md R70 to R74): where the fields of a command word lie, the row each operation code selects, and the row of each character. -/

namespace Sys2Proof

/-! ## The fields of any command word, as numbers (R70) -/

section Fields
variable (cw : CmdWord)

theorem toNat_opOf : (opOf cw).toNat = cw.toNat / 2 ^ 60 := by
  have hlt := cw.isLt
  simp only [opOf, BitVec.extractLsb'_toNat, Nat.shiftRight_eq_div_pow]
  omega

theorem toNat_symOf : (symOf cw).toNat = cw.toNat / 2 ^ 56 % 2 ^ 4 := by
  simp [symOf, Nat.shiftRight_eq_div_pow]

theorem toNat_chrOf : (chrOf cw).toNat = cw.toNat / 2 ^ 48 % 2 ^ 8 := by
  simp [chrOf, Nat.shiftRight_eq_div_pow]

theorem toNat_rOf : (rOf cw).toNat = cw.toNat / 2 ^ 32 % 2 ^ 16 := by
  simp [rOf, Nat.shiftRight_eq_div_pow]

theorem toNat_gOf : (gOf cw).toNat = cw.toNat / 2 ^ 16 % 2 ^ 16 := by
  simp [gOf, Nat.shiftRight_eq_div_pow]

theorem toNat_bOf : (bOf cw).toNat = cw.toNat % 2 ^ 16 := by
  simp [bOf]

/-- There are no bits outside the six fields. -/
theorem packCmd_fields : packCmd (opOf cw) (symOf cw) (chrOf cw) (rOf cw) (gOf cw) (bOf cw) = cw := by
  apply BitVec.eq_of_toNat_eq
  rw [toNat_packCmd, toNat_opOf, toNat_symOf, toNat_chrOf, toNat_rOf, toNat_gOf, toNat_bOf]
  omega

theorem setWidth_opOf : (opOf cw).setWidth 64 = cw >>> 60 := by
  apply BitVec.eq_of_toNat_eq
  have hlt := cw.isLt
  rw [BitVec.toNat_setWidth, toNat_opOf, BitVec.toNat_ushiftRight, Nat.shiftRight_eq_div_pow]
  omega

/-- R72: the mask clears the bits below `OP`, as a shift down and up again does. -/
theorem and_opMask : cw &&& 0xF000000000000000#64 = (opOf cw).setWidth 64 <<< 60 := by
  rw [setWidth_opOf, BitVec.shiftLeft_ushiftRight]
  rfl

end Fields

/-! ## Format `CW64`: the row of each operation code (R72) -/

theorem decodeCmd_packCmd (sym : SymField) (chr : Byte) (r g b : ChanCode) :
    decodeCmd (packCmd 0 sym chr r g b) = .nop ∧
    decodeCmd (packCmd 1 sym chr r g b) = .digit sym ∧
    decodeCmd (packCmd 2 sym chr r g b) = .pwron ∧
    decodeCmd (packCmd 3 sym chr r g b) = .pwroff ∧
    decodeCmd (packCmd 4 sym chr r g b) = .render sym r g b ∧
    decodeCmd (packCmd 5 sym chr r g b) = .clear ∧
    decodeCmd (packCmd 6 sym chr r g b) = .char chr ∧
    decodeCmd (packCmd 7 sym chr r g b) = .reserved7 ∧
    decodeCmd (packCmd 8 sym chr r g b) = .reserved8 ∧
    decodeCmd (packCmd 9 sym chr r g b) = .reserved9 ∧
    decodeCmd (packCmd 10 sym chr r g b) = .reserved10 ∧
    decodeCmd (packCmd 11 sym chr r g b) = .reserved11 ∧
    decodeCmd (packCmd 12 sym chr r g b) = .reserved12 ∧
    decodeCmd (packCmd 13 sym chr r g b) = .reserved13 ∧
    decodeCmd (packCmd 14 sym chr r g b) = .reserved14 ∧
    decodeCmd (packCmd 15 sym chr r g b) = .reserved15 := by
  simp [decodeCmd]

theorem decodeCmd_of_char {cw : CmdWord} (h : opOf cw = 6) : decodeCmd cw = .char (chrOf cw) := by
  simp [decodeCmd, h]

/-- R71: words that agree on `OP` and on the fields it reads decode to one instruction. -/
theorem decodeCmd_congr {cw cw' : CmdWord} (hop : opOf cw = opOf cw')
    (hsym : opOf cw = 1 ∨ opOf cw = 4 → symOf cw = symOf cw') (hchr : opOf cw = 6 → chrOf cw = chrOf cw')
    (hrgb : opOf cw = 4 → rOf cw = rOf cw' ∧ gOf cw = gOf cw' ∧ bOf cw = bOf cw') :
    decodeCmd cw = decodeCmd cw' := by
  unfold decodeCmd
  rw [← hop]
  split
  case h_2 h => rw [hsym (.inl (BitVec.eq_of_toNat_eq h))]
  case h_5 h =>
    have h4 : opOf cw = 4 := BitVec.eq_of_toNat_eq h
    obtain ⟨hr, hg, hb⟩ := hrgb h4
    rw [hsym (.inr h4), hr, hg, hb]
  case h_7 h => rw [hchr (BitVec.eq_of_toNat_eq h)]
  all_goals rfl

/-! ## Format `CHR8`: the row of each character (R74) -/

theorem mem_selectingCodes_of_toNat {c : Byte} (h : c.toNat ∈ selectingCodes.map BitVec.toNat) :
    c ∈ selectingCodes :=
  (List.mem_map_of_injective fun _ _ => BitVec.eq_of_toNat_eq).mp h

theorem decodeChr_of_notMem {c : Byte} (hc : c ∉ selectingCodes) : decodeChr c = .charOther c := by
  unfold decodeChr
  split
  case h_15 => rfl
  all_goals
    rename_i h
    exact absurd (mem_selectingCodes_of_toNat (by rw [h]; decide)) hc

theorem wf_charOther {c : Byte} : (Instr.charOther c).wf = true ↔ c ∉ selectingCodes := by
  simp [Instr.wf]

/-! ## Both formats -/

/-- Every row's word selects the row again, and a well-formed default row holds a code that no other row has. -/
theorem decode_encode {i : Instr} (hwf : i.wf = true) : decode (encode i) = i := by
  cases i with
  | charOther c => exact decodeChr_of_notMem (wf_charOther.mp hwf)
  | charDigit0 | charDigit1 | charDigit2 | charDigit3 | charDigit4 | charDigit5 | charDigit6 | charDigit7
  | charDigit8 | charDigit9 | charUpperL | charLowerL | charUpperD | charLowerD => rfl
  | _ => simp only [encode, decode, decodeCmd_packCmd]

end Sys2Proof
end

section
/-! PROOFS. What the rows of the character table do, and that a `CHAR` word runs the row of its character (30_encoding.md R74; 43_animation_controller.md R162, R163, R175). -/

namespace Sys2Proof.Machine

open Sys2Proof.Safety (Rendered Cleared)

variable {s : State}

/-! ## `DO_RENDER` and `DO_CLEAR` in the words of the statements -/

theorem rendered_doRender {sym : SymField} {k : Symbol} (h : selectSymbol sym = some k) (c : Color) :
    Rendered s (doRender Config.platform s sym c) k c := by
  rw [doRender_of_some h]
  exact {
    animOn := rfl
    animSym := (selectSymbol_eq_some h).symm
    animR := rfl
    animG := rfl
    animB := rfl
    lit := fun i hi => by simp [hi]
    unlit := fun i hi => by simp [hi]
    started := ⟨rfl, rfl, rfl, rfl⟩
    others := ⟨rfl, rfl, rfl⟩ }

theorem cleared_doClear : Cleared s (doClear s) where
  animOn := rfl
  animSym := rfl
  animR := rfl
  animG := rfl
  animB := rfl
  dark i := zeroFrame_get i i.isLt
  started := ⟨rfl, rfl, rfl, rfl⟩
  others := ⟨rfl, rfl, rfl⟩

theorem rendered_selectDigit {d : SymField} {k : Symbol} (h : selectSymbol d = some k) :
    Rendered s (selectDigit d s) k Config.defaultOnColor :=
  rendered_doRender h Config.defaultOnColor

/-! ## `EXEC_CHAR` and the table agree -/

theorem mem_selectingCodes_iff {c : Byte} : c ∈ selectingCodes ↔
    (0x30 ≤ c.toNat ∧ c.toNat ≤ 0x39) ∨ (c = 0x4C ∨ c = 0x6C) ∨ (c = 0x44 ∨ c = 0x64) := by
  simp only [selectingCodes, List.mem_cons, List.not_mem_nil, or_false, BitVec.toNat_eq, BitVec.ofNat_eq_ofNat,
    BitVec.toNat_ofNat]
  omega

theorem execCharacter_of_notMem {c : Byte} (hc : c ∉ selectingCodes) (p : Config.Platform) :
    execCharacter p s c = s := by
  rw [mem_selectingCodes_iff, not_or, not_or] at hc
  obtain ⟨hdigit, hon, hoff⟩ := hc
  rw [execCharacter, if_neg hdigit, if_neg hon, if_neg hoff]

/-- Each branch of R175 does what the row of R74 does. -/
theorem exec_char (c : Byte) (s : State) : exec (.char c) s = exec (decodeChr c) s := by
  by_cases hc : c ∈ selectingCodes
  · simp only [selectingCodes, List.mem_cons, List.not_mem_nil, or_false] at hc
    obtain rfl | rfl | rfl | rfl | rfl | rfl | rfl | rfl | rfl | rfl | rfl | rfl | rfl | rfl := hc <;> rfl
  · rw [decodeChr_of_notMem hc]
    exact congrArg Host.Outcome.next (execCharacter_of_notMem hc Config.platform)

end Sys2Proof.Machine
end

section
/-! PROOFS. The ticks of a block whose inputs are known: an acceptance, a tick of the gap, and the host of a test program that holds a command meanwhile (30_encoding.md R82; 42_transmission_encoder.md R134, R136). -/

namespace Sys2Proof.Machine

/-! ## One tick -/

theorem step_of_accept {s : State} (hs : s.st = .idle) (hr : s.input.rst = false) (hv : s.input.cmdValid = true) :
    step s = exec (decodeCmd s.input.cmd) s.elapse := by
  simp [step, tickOnce, stepWith, stepIdle, hs, hr, hv]

theorem step_of_gap {s : State} (hs : s.st = .gap) (hr : s.input.rst = false) : step s = .next (stepGap s.elapse) := by
  simp [step, tickOnce, stepWith, hs, hr]

theorem stepGap_of_lt {s : State} (h : s.gcnt.toNat < 119) : stepGap s = { s with gcnt := s.gcnt + 1 } :=
  if_pos h

theorem stepGap_of_ge {s : State} (h : 119 ≤ s.gcnt.toNat) : stepGap s = { s with gcnt := 0, st := .idle } :=
  if_neg (Nat.not_lt.mpr h)

/-- The word is on the port in this tick alone: the state it runs in does not hold it. -/
theorem step_presentCmd (s : State) (cw : CmdWord) :
    step (s.presentCmd cw) = exec (decodeCmd cw) { s.elapse with st := .idle } :=
  step_of_accept rfl rfl rfl

/-! ## The host that presents a command (R82) -/

section Holding
variable (ok : Bool) (cw : CmdWord) (p : List HostLine) {s : State}

/-- In a ready block the presented word is executed and the program goes on. -/
theorem hostRun_command_of_idle {u : State} (hs : s.st = .idle) (he : exec (decodeCmd cw) s.elapse = .next u) (k : Nat) :
    hostRun ok (k + 1) (.command cw :: p) s = hostRun ok k p u := by
  have hready : s.cmdReady = true := (cmdReady_iff s).mpr hs
  have hstep := step_of_accept (s := s.present { quietInput ok with cmdValid := true, cmd := cw }) hs rfl rfl
  have hnext := hstep.trans he
  simp [hostRun, hostDrive, hready, hnext]

/-- In the gap the word stays presented, and only the gap counts. -/
theorem hostRun_command_of_gap (hs : s.st = .gap) (k : Nat) :
    hostRun ok (k + 1) (.command cw :: p) s = hostRun ok k (.command cw :: p) (stepGap s.elapse) := by
  have hready : s.cmdReady = false := by simp [State.cmdReady, hs]
  have hstep := step_of_gap (s := s.present { quietInput ok with cmdValid := true, cmd := cw }) hs rfl
  simp only [hostRun, hostDrive, hready, hstep]
  rfl

/-- The block when the gap ends, k ticks on: ready, no other register changed. -/
def State.gapEnd (s : State) (k : Nat) : State :=
  { s with st := .idle, gcnt := 0, inputs := s.inputs.drop k, tick := s.tick + k }

/-- The whole rest of a gap: k more counts, then the tick that ends it. -/
theorem hostRun_command_through_gap (m k : Nat) (hs : s.st = .gap) (hk : s.gcnt.toNat + k = 119) :
    hostRun ok (k + 1 + m) (.command cw :: p) s = hostRun ok m (.command cw :: p) (s.gapEnd (k + 1)) := by
  induction k generalizing s with
  | zero =>
    have hlast : 119 ≤ s.elapse.gcnt.toNat := hk.ge
    rw [Nat.add_comm, hostRun_command_of_gap ok cw p hs, stepGap_of_ge hlast]
    simp [State.gapEnd, State.elapse]
  | succ k ih =>
    have hlt : s.elapse.gcnt.toNat < 119 := by rw [State.elapse_gcnt]; omega
    have hcount : (s.gcnt + 1).toNat + k = 119 := by bv_omega
    have hs' : (stepGap s.elapse).st = .gap := by rw [stepGap_of_lt hlt]; exact hs
    have hk' : (stepGap s.elapse).gcnt.toNat + k = 119 := by rw [stepGap_of_lt hlt]; exact hcount
    rw [Nat.add_right_comm, hostRun_command_of_gap ok cw p hs, ih hs' hk', stepGap_of_lt hlt]
    simp [State.gapEnd, Nat.add_assoc, Nat.add_comm 1]

end Holding

end Sys2Proof.Machine
end

section
/-! PROOFS. The statements of 30_encoding.md. -/

namespace Sys2Proof.Machine

/-- Settles O1: each row's word selects the row, and the default row's codes select no other. -/
theorem decodeEncodeRoundTrip : Obligations.DecodeEncodeRoundTrip := fun _ hwf => decode_encode hwf

/-- Settles O2: each field is a quotient and a remainder of the word. -/
theorem commandWordFields : Obligations.CommandWordFields := fun cw =>
  ⟨toNat_opOf cw, toNat_symOf cw, toNat_chrOf cw, toNat_rOf cw, toNat_gOf cw, toNat_bOf cw, packCmd_fields cw⟩

/-- Settles O3: the mask leaves `OP`, and the decoder reads `OP` alone to select the row. -/
theorem opcodeSelectsOperation : Obligations.OpcodeSelectsOperation := ⟨and_opMask, decodeCmd_packCmd⟩

/-- Settles O6: a line writes only its own fields, and the decoder reads only those. -/
theorem ignoredFieldsHaveNoEffect : Obligations.IgnoredFieldsHaveNoEffect := by
  constructor
  · intro l w h
    cases l with
    | wait | reset => cases h
    | _ => cases h; simp
  · intro s op sym sym' chr chr' r r' g g' b b' hsym hchr hrgb
    rw [step_presentCmd, step_presentCmd]
    exact congrArg (exec · _) (decodeCmd_congr (by simp) (by simpa) (by simpa) (by simpa))

/-- Settles O9: a `CHAR` word is accepted as `CHAR` of its character, which does what the character's row does. -/
theorem stepRunsCharacterRow : Obligations.StepRunsCharacterRow := by
  rintro s _ hs hr hv hop rfl
  rw [step_of_accept hs hr hv, decodeCmd_of_char hop]
  exact exec_char ..

/-- Settles O58: the word stays presented while the gap counts to its end, and the ready block takes it at once. -/
theorem hostHoldsCommandUntilAccepted : Obligations.HostHoldsCommandUntilAccepted := by
  refine fun ok cw p m => ⟨fun s hs hg => ?_, fun t ht => ?_⟩
  · refine ⟨s.gapEnd (119 - s.gcnt.toNat + 1), rfl, rfl, rfl, rfl, rfl, rfl, rfl, ?_⟩
    rw [tReset_eq] at hg ⊢
    rw [← hostRun_command_through_gap ok cw p m _ hs (by omega)]
    congr 1
    omega
  · obtain ⟨u, hu⟩ := exec_answers_next (decodeCmd cw) t.elapse
    exact ⟨u, hu, hostRun_command_of_idle ok cw p ht hu m⟩

/-- Settles O4: the 14 rows are read off the table, and no other code has one. -/
theorem characterTableCoversAllCodes : Obligations.CharacterTableCoversAllCodes :=
  ⟨rfl, rfl, rfl, rfl, rfl, rfl, rfl, rfl, rfl, rfl, rfl, rfl, rfl, rfl, fun _ hc => decodeChr_of_notMem hc⟩

/-- Settles O5: the decoder runs on each word. -/
theorem specWordsDecode : Obligations.SpecWordsDecode :=
  ⟨rfl, rfl, rfl, rfl, rfl, rfl, rfl, rfl, rfl, rfl, rfl, rfl⟩

/-- Settles O7: the word of a line is the packed word of the command it names. -/
theorem assembledLinesDecode : Obligations.AssembledLinesDecode := by
  refine fun d r g b c => ⟨⟨rfl, rfl⟩, ⟨_, rfl, ?_⟩, ⟨_, rfl, rfl, ?_⟩, ⟨_, rfl, rfl, ?_⟩, ⟨_, rfl, ?_⟩,
    ⟨_, rfl, ?_⟩, ⟨_, rfl, ?_⟩⟩
  all_goals simp only [decodeCmd_packCmd]

/-- Settles O29: a row's meaning is the render or the clear of its equivalent command. -/
theorem characterRowsRunTheirEquivalents : Obligations.CharacterRowsRunTheirEquivalents := fun _ =>
  ⟨⟨_, rfl, rendered_selectDigit rfl⟩, ⟨_, rfl, rendered_selectDigit rfl⟩, ⟨_, rfl, rendered_selectDigit rfl⟩,
    ⟨_, rfl, rendered_selectDigit rfl⟩, ⟨_, rfl, rendered_selectDigit rfl⟩, ⟨_, rfl, rendered_selectDigit rfl⟩,
    ⟨_, rfl, rendered_selectDigit rfl⟩, ⟨_, rfl, rendered_selectDigit rfl⟩, ⟨_, rfl, rendered_selectDigit rfl⟩,
    ⟨_, rfl, rendered_selectDigit rfl⟩, ⟨_, rfl, rendered_selectDigit rfl⟩, ⟨_, rfl, rendered_selectDigit rfl⟩,
    ⟨_, rfl, cleared_doClear⟩, ⟨_, rfl, cleared_doClear⟩, fun _ => rfl⟩

end Sys2Proof.Machine
end

section
/-! PROOFS. The Color Model: `CLAMP`, `SCALE` and `CHAN` as functions of integers and of rationals, and the bytes of a colour word (41_color_model.md). -/

namespace Sys2Proof.Machine

/-! ## CLAMP (R111) -/

theorem clamp_of_neg {x : Int} (h : x < 0) : clamp x = 0 := if_pos h

theorem clamp_of_gt {x : Int} (h : 256 < x) : clamp x = 256 := by
  rw [clamp, if_neg (by omega), if_pos h]

theorem natCast_clamp_of_mem {x : Int} (h0 : 0 ≤ x) (h1 : x ≤ 256) : (clamp x : Int) = x := by
  rw [clamp, if_neg (by omega), if_neg (by omega), Int.toNat_of_nonneg h0]

/-- The three cases of `CLAMP` in one expression. -/
theorem natCast_clamp (x : Int) : (clamp x : Int) = min (max x 0) 256 := by
  rcases lt_or_ge x 0 with hneg | hnonneg
  · rw [clamp_of_neg hneg]; omega
  · rcases lt_or_ge 256 x with hgt | hle
    · rw [clamp_of_gt hgt]; omega
    · rw [natCast_clamp_of_mem hnonneg hle]; omega

theorem clamp_le (x : Int) : clamp x ≤ 256 := by
  have h := natCast_clamp x
  omega

theorem clamp_mono : Monotone clamp := fun x y hxy => by
  have hx := natCast_clamp x
  have hy := natCast_clamp y
  omega

theorem clamp_eq_zero_iff {x : Int} : clamp x = 0 ↔ x ≤ 0 := by
  have h := natCast_clamp x
  omega

theorem clamp_eq_256_iff {x : Int} : clamp x = 256 ↔ 256 ≤ x := by
  have h := natCast_clamp x
  omega

/-- The clamped code stands for the clamped intensity (R110). -/
theorem clamp_div_256 (x : Int) : (clamp x : ℚ) / 256 = min (max ((x : ℚ) / 256) 0) 1 := by
  have h : (clamp x : ℚ) = min (max (x : ℚ) 0) 256 := mod_cast natCast_clamp x
  have hpos : (0 : ℚ) ≤ 256 := by norm_num
  rw [h, ← min_div_div_right hpos, ← max_div_div_right hpos, zero_div, div_self (by norm_num)]

/-! ## SCALE (R112, R116) -/

theorem scale_of_le_128 {k : Nat} (h : k ≤ 128) : scale k = k := by
  unfold scale; omega

theorem scale_of_ge_129 {k : Nat} (h0 : 129 ≤ k) (h1 : k ≤ 256) : scale k = k - 1 := by
  unfold scale; omega

theorem scale_eq_shiftRight (k : Nat) : scale k = (k * 255 + 128) >>> 8 :=
  (Nat.shiftRight_eq_div_pow _ 8).symm

theorem scale_mono : Monotone scale := fun j k hjk => by
  unfold scale; omega

theorem scale_le {k : Nat} (h : k ≤ 256) : scale k ≤ 255 := scale_mono h

theorem scale_eq_zero_iff {k : Nat} : scale k = 0 ↔ k = 0 := by
  unfold scale; omega

theorem scale_eq_255_iff {k : Nat} : scale k = 255 ↔ k = 256 := by
  unfold scale; omega

/-- The added 128 is the half of the divisor: the floor division rounds to nearest, ties upward. -/
theorem scale_eq_floor (k : Nat) : (scale k : ℤ) = ⌊(k : ℚ) * 255 / 256 + 1 / 2⌋ := by
  have hq : (k : ℚ) * 255 / 256 + 1 / 2 = ((k * 255 + 128 : ℕ) : ℚ) / (256 : ℕ) := by
    push_cast; ring
  rw [hq, Rat.floor_natCast_div_natCast, scale, Int.natCast_ediv]

/-- R119: `SCALE` of `CLAMP` is the document's function of the intensity `x / 256`. -/
theorem scale_clamp_eq_floor (x : Int) :
    (scale (clamp x) : ℤ) = ⌊min (max ((x : ℚ) / 256) 0) 1 * 255 + 1 / 2⌋ := by
  rw [scale_eq_floor, ← clamp_div_256, div_mul_eq_mul_div]

/-! ## CHAN (R114) -/

/-- `SCALE` of `CLAMP` fits the byte, so nothing is cut off. -/
theorem toNat_chan (x : ChanCode) : (chan x).toNat = scale (clamp x.toInt) := by
  have hle := scale_le (clamp_le x.toInt)
  rw [chan_eq, BitVec.toNat_ofNat, Nat.mod_eq_of_lt (by omega)]

theorem toNat_chan_eq_zero_iff (x : ChanCode) : (chan x).toNat = 0 ↔ x.toInt ≤ 0 := by
  rw [toNat_chan, scale_eq_zero_iff, clamp_eq_zero_iff]

theorem toNat_chan_eq_255_iff (x : ChanCode) : (chan x).toNat = 255 ↔ 256 ≤ x.toInt := by
  rw [toNat_chan, scale_eq_255_iff, clamp_eq_256_iff]

/-! ## The bytes of a colour word (R115) -/

section ColourWord
variable (c : Color)

theorem extractLsb'_toWord_green : (toWord c).extractLsb' 16 8 = chan c.g := by
  rw [toWord_eq, BitVec.extractLsb'_append_eq_of_le (by decide)]
  exact BitVec.extractLsb'_append_eq_left

theorem extractLsb'_toWord_red : (toWord c).extractLsb' 8 8 = chan c.r := by
  rw [toWord_eq, BitVec.extractLsb'_append_eq_of_le (by decide)]
  exact BitVec.extractLsb'_append_eq_right

theorem extractLsb'_toWord_blue : (toWord c).extractLsb' 0 8 = chan c.b := by
  rw [toWord_eq]
  exact BitVec.extractLsb'_append_eq_right

theorem toNat_toWord :
    (toWord c).toNat = (chan c.g).toNat * 2 ^ 16 + (chan c.r).toNat * 2 ^ 8 + (chan c.b).toNat := by
  rw [toWord_eq, BitVec.toNat_append, BitVec.toNat_append,
    ← Nat.shiftLeft_add_eq_or_of_lt (chan c.r).isLt, ← Nat.shiftLeft_add_eq_or_of_lt (chan c.b).isLt,
    Nat.shiftLeft_eq, Nat.shiftLeft_eq]
  ring

end ColourWord

end Sys2Proof.Machine
end

section
/-! PROOFS. The statements of 41_color_model.md. -/

namespace Sys2Proof.Machine

/-- Settles O44: the numerator's 128 is half of the divisor 256. -/
theorem scaleRoundsToNearest : Obligations.ScaleRoundsToNearest := fun k hk =>
  ⟨scale_eq_floor k, scale_eq_shiftRight k, by omega, scale_le hk⟩

/-- Settles O46: the word is the three bytes appended. -/
theorem colourWordLayout : Obligations.ColourWordLayout := fun c =>
  ⟨extractLsb'_toWord_green c, extractLsb'_toWord_red c, extractLsb'_toWord_blue c, toNat_toWord c⟩

/-- Settles O47: `SCALE` takes 0 only to 0 and 256 only to 255, and `CLAMP` takes exactly the codes outside to them. -/
theorem channelEndPoints : Obligations.ChannelEndPoints :=
  ⟨fun x => ⟨toNat_chan_eq_zero_iff x, toNat_chan_eq_255_iff x⟩, rfl, rfl⟩

/-- Settles O48: `SCALE` and `CLAMP` are monotone. -/
theorem channelIsMonotone : Obligations.ChannelIsMonotone := fun x y hxy => by
  rw [toNat_chan, toNat_chan]
  exact scale_mono (clamp_mono hxy)

/-- Settles O49: the value fits the byte, and rounding the clamped code is rounding the clamped intensity. -/
theorem channelMatchesRealFunction : Obligations.ChannelMatchesRealFunction := by
  refine ⟨fun _ _ => rfl, fun _ => rfl, fun x => ?_⟩
  rw [toNat_chan]
  exact ⟨rfl, scale_clamp_eq_floor _, scale_clamp_eq_floor _⟩

/-- Settles O43: the three cases of `CLAMP`. -/
theorem clampBounds : Obligations.ClampBounds := fun _ => ⟨clamp_of_neg, clamp_of_gt, natCast_clamp_of_mem⟩

/-- Settles O45: the floor division on either side of 128. -/
theorem scaleClosedForm : Obligations.ScaleClosedForm :=
  ⟨fun _ => scale_of_le_128, fun _ => scale_of_ge_129⟩

end Sys2Proof.Machine
end

section
/-! PROOFS. Runs: their first and their last tick, the inputs that move on by one sample a tick, and that what holds at the start of a run and is kept by every tick holds at its end (42_transmission_encoder.md R131). -/

namespace Sys2Proof.Machine

open Sys2Proof.Safety (reaches noReset Inv step_keeps_inv)

variable {s t u : State} {k : Nat}

/-! ## Runs, from the first tick and from the last -/

theorem reaches_zero : reaches 0 s t ↔ s = t := ⟨Host.Outcome.next.inj, congrArg _⟩

theorem reaches_succ (h : step s = .next t) : reaches (k + 1) s u ↔ reaches k t u := by
  rw [reaches, run_succ k h, reaches]

theorem reaches_succ_last : reaches (k + 1) s u ↔ ∃ t, reaches k s t ∧ step t = .next u := by
  induction k generalizing s with
  | zero =>
    obtain ⟨v, hv⟩ := step_answers_next s
    simp [reaches_succ hv, reaches_zero, hv]
  | succ k ih =>
    obtain ⟨v, hv⟩ := step_answers_next s
    simp [reaches_succ hv, ih]

/-- What holds at the start of a run and is kept by each of its ticks holds at its end. -/
theorem reaches_induction {P : Nat → State → Prop} (h : reaches k s t) (hstart : P 0 s)
    (hkeep : ∀ j v w, reaches j s v → P j v → step v = .next w → P (j + 1) w) : P k t := by
  induction k generalizing t with
  | zero => exact reaches_zero.mp h ▸ hstart
  | succ k ih =>
    obtain ⟨v, hv, hstep⟩ := reaches_succ_last.mp h
    exact hkeep k v t hv (ih hv) hstep

theorem reaches_keeps_inv (h : reaches k s t) (hs : Inv s) : Inv t :=
  reaches_induction (P := fun _ v => Inv v) h hs fun _ _ _ _ hv hstep => step_keeps_inv hv hstep

/-! ## The inputs along a run -/

theorem doRender_inputs (p : Config.Platform) (s : State) (sym : SymField) (c : Color) :
    (doRender p s sym c).inputs = s.inputs ∧ (doRender p s sym c).tick = s.tick := by
  obtain ⟨-, h⟩ | ⟨k, -, h⟩ := doRender_cases p s sym c <;> rw [h] <;> exact ⟨rfl, rfl⟩

theorem exec_inputs {i : Instr} (h : exec i s = .next t) : t.inputs = s.inputs ∧ t.tick = s.tick := by
  obtain hi | ⟨sym, c, hi⟩ | hi := exec_cases i s <;> cases hi.symm.trans h
  · exact ⟨rfl, rfl⟩
  · exact doRender_inputs ..
  · exact ⟨rfl, rfl⟩

/-- A tick takes one sample, whatever it does. -/
theorem step_inputs (h : step s = .next t) : t.inputs = s.elapse.inputs ∧ t.tick = s.elapse.tick := by
  obtain ⟨-, rfl⟩ | ⟨-, -, rfl⟩ | ⟨-, -, rfl⟩ | ⟨-, -, -, rfl⟩ | ⟨-, -, -, he⟩ | ⟨-, -, rfl⟩ |
    ⟨-, -, rfl⟩ := step_cases h
  · exact ⟨rfl, rfl⟩
  · obtain ⟨-, -, h'⟩ | ⟨-, h'⟩ := stepUninit_cases Config.platform s.input.cfgChanOk s.elapse <;>
      rw [h'] <;> exact ⟨rfl, rfl⟩
  · exact ⟨rfl, rfl⟩
  · exact ⟨rfl, rfl⟩
  · exact exec_inputs he
  · obtain ⟨-, h'⟩ | ⟨-, -, h'⟩ | ⟨-, -, -, h'⟩ | ⟨-, -, -, h'⟩ := stepShift_cases s.elapse <;>
      rw [h'] <;> exact ⟨rfl, rfl⟩
  · obtain ⟨-, h'⟩ | ⟨-, h'⟩ := stepGap_cases s.elapse <;> rw [h'] <;> exact ⟨rfl, rfl⟩

theorem inputAt_of_step (h : step s = .next t) (k : Nat) : t.inputAt k = s.inputAt (k + 1) := by
  obtain ⟨hi, ht⟩ := step_inputs h
  rw [State.inputAt_congr hi ht, State.inputAt_elapse]

theorem noReset_head (hr : noReset s (k + 1)) : s.input.rst = false := hr 0 (Nat.succ_pos k)

theorem noReset_tail (h : step s = .next t) (hr : noReset s (k + 1)) : noReset t k := fun j hj => by
  rw [inputAt_of_step h]
  exact hr (j + 1) (Nat.succ_lt_succ hj)

theorem noReset_mono {n : Nat} (hr : noReset s n) (hk : k ≤ n) : noReset s k := fun j hj =>
  hr j (Nat.lt_of_lt_of_le hj hk)

end Sys2Proof.Machine
end

section
/-! PROOFS. The ticks of a block without reset, one equation for each case of `STEP`, and what each of them logs (42_transmission_encoder.md R132 to R136; 00_scope.md R11). -/

namespace Sys2Proof.Machine

open Sys2Proof.Config (Platform N)

variable {s t : State}

/-! ## The step -/

theorem step_of_uninit (hs : s.st = .uninit) (hr : s.input.rst = false) :
    step s = .next (stepUninit Config.platform s.input.cfgChanOk s.elapse) := by
  simp [step, tickOnce, stepWith, hs, hr]

theorem step_of_halted (hs : s.st = .halted) (hr : s.input.rst = false) : step s = .next s.elapse := by
  simp [step, tickOnce, stepWith, stepHalted, hs, hr]

theorem step_of_no_command (hs : s.st = .idle) (hr : s.input.rst = false) (hv : s.input.cmdValid = false) :
    step s = .next s.elapse := by
  simp [step, tickOnce, stepWith, stepIdle, hs, hr, hv]

theorem step_of_shift (hs : s.st = .shift) (hr : s.input.rst = false) : step s = .next (stepShift s.elapse) := by
  simp [step, tickOnce, stepWith, hs, hr]

/-! ## The initialisation check (R132) -/

theorem configGood_iff (p : Platform) (ok : Bool) : configGood p ok = true ↔ ok = true ∧ p.patLen = N := by
  simp [configGood]

theorem configGood_eq_false_iff (p : Platform) (ok : Bool) :
    configGood p ok = false ↔ ok = false ∨ p.patLen ≠ N := by
  rw [Bool.eq_false_iff, ne_eq, configGood_iff, not_and_or, Bool.not_eq_true]

theorem stepUninit_of_good {p : Platform} {ok : Bool} (h : configGood p ok = true) : stepUninit p ok s = s.enterGap :=
  if_pos h

theorem stepUninit_of_bad {p : Platform} {ok : Bool} (h : configGood p ok = false) : stepUninit p ok s = s.halt :=
  if_neg (Bool.not_eq_true _ ▸ h)

/-! ## The four cases of a `SHIFT` tick (R135) -/

theorem stepShift_of_tcnt_lt (ht : s.tcnt.toNat < 2) : stepShift s = { s with tcnt := s.tcnt + 1 } := if_pos ht

theorem stepShift_of_biti_pos (ht : 2 ≤ s.tcnt.toNat) (hb : 0 < s.biti.toNat) :
    stepShift s = { s with tcnt := 0, biti := s.biti - 1 } :=
  (if_neg (Nat.not_lt.mpr ht)).trans (if_pos hb)

theorem stepShift_of_cell_lt (ht : 2 ≤ s.tcnt.toNat) (hb : s.biti.toNat = 0) (hc : s.cell.toNat < 24) :
    stepShift s = { s with tcnt := 0, biti := 23, cell := s.cell + 1 } :=
  (if_neg (Nat.not_lt.mpr ht)).trans ((if_neg hb.not_gt).trans (if_pos hc))

theorem stepShift_of_last (ht : 2 ≤ s.tcnt.toNat) (hb : s.biti.toNat = 0) (hc : 24 ≤ s.cell.toNat) :
    stepShift s = { s with tcnt := 0, biti := 23, cell := 0, st := .gap, gcnt := 0 } :=
  (if_neg (Nat.not_lt.mpr ht)).trans ((if_neg hb.not_gt).trans (if_neg (Nat.not_lt.mpr hc)))

/-! ## What a command leaves (R161, R164) -/

/-- An instruction changes nothing, or it starts a transmission at the first position of the burst. -/
theorem exec_same_or_starts {i : Instr} (h : exec i s = .next t) :
    t = s ∨ (t.st = .shift ∧ t.cell = 0 ∧ t.biti = 23 ∧ t.tcnt = 0) := by
  obtain hi | ⟨sym, c, hi⟩ | hi := exec_cases i s <;> cases hi.symm.trans h
  · exact .inl rfl
  · obtain ⟨-, he⟩ | ⟨k, -, he⟩ := doRender_cases Config.platform s sym c <;> rw [he]
    · exact .inl rfl
    · exact .inr ⟨rfl, rfl, rfl, rfl⟩
  · exact .inr ⟨rfl, rfl, rfl, rfl⟩

/-! ## The ways into `GAP` (R132, R135, R136) -/

theorem st_of_step_to_gap (h : step s = .next t) (ht : t.st = .gap) :
    s.st = .shift ∨ s.st = .uninit ∨ s.st = .gap := by
  obtain ⟨-, rfl⟩ | ⟨-, hs, -⟩ | ⟨-, hs, rfl⟩ | ⟨-, hs, -, rfl⟩ | ⟨-, hs, -, he⟩ | ⟨-, hs, -⟩ | ⟨-, hs, -⟩ :=
    step_cases h
  · cases ht
  · exact .inr (.inl hs)
  · cases hs.symm.trans ht
  · cases hs.symm.trans ht
  · obtain rfl | ⟨hshift, -⟩ := exec_same_or_starts he
    · cases hs.symm.trans ht
    · cases hshift.symm.trans ht
  · exact .inl hs
  · exact .inr (.inr hs)

/-! ## The log of one tick -/

variable (inTx : Bool) (n : Nat)

theorem tickEvents_of_uninit (hs : s.st = .uninit) (hr : s.input.rst = false) : tickEvents inTx n s =
    if configGood Config.platform s.input.cfgChanOk then [] else [.halt n] := by
  simp [tickEvents, eventsOf, hs, hr]

theorem tickEvents_of_halted (hs : s.st = .halted) : tickEvents inTx n s = [] := by
  simp [tickEvents, eventsOf, hs]

theorem tickEvents_of_no_command (hs : s.st = .idle) (hv : s.input.cmdValid = false) : tickEvents inTx n s = [] := by
  simp [tickEvents, eventsOf, hs, hv]

theorem tickEvents_of_accept (hs : s.st = .idle) (hr : s.input.rst = false) (hv : s.input.cmdValid = true)
    (h : step s = .next t) : tickEvents inTx n s = acceptedEvents n s.input.cmd t.st t.frame := by
  simp [tickEvents, eventsOf, acceptEvents, hs, hr, hv, h]

theorem tickEvents_of_shift (hs : s.st = .shift) : tickEvents inTx n s = [] := by
  simp [tickEvents, eventsOf, hs]

theorem tickEvents_of_gap_counting (hs : s.st = .gap) (hg : s.gcnt.toNat < 119) : tickEvents inTx n s = [] := by
  simp [tickEvents, eventsOf, hs, hg]

theorem tickEvents_of_gap_last (hs : s.st = .gap) (hr : s.input.rst = false) (hg : 119 ≤ s.gcnt.toNat) :
    tickEvents inTx n s = if inTx then [.done (n + 1)] else [] := by
  simp [tickEvents, eventsOf, hs, hr, Nat.not_lt.mpr hg]

theorem accept_mem_acceptedEvents {m : Nat} (cw : CmdWord) (st : TopState) (f : Vector ColorWord m) :
    .accept n cw ∈ acceptedEvents n cw st f := by
  unfold acceptedEvents
  split <;> exact List.mem_cons_self

end Sys2Proof.Machine
end

section
/-! PROOFS. The waveform of a frame is the pulses of its bits in wire order and a reset gap: its length, its closed form, its high ticks, and what the reference decoder reads from it (42_transmission_encoder.md R137 to R140, R150, R151). -/

namespace Sys2Proof.Machine

open Sys2Proof.Config (N)

/-! ## Pulses (R138) -/

theorem pulse_true : pulse true = [true, true, false] := rfl

theorem pulse_false : pulse false = [true, false, false] := rfl

theorem length_pulse (b : Bool) : (pulse b).length = 3 := by cases b <;> rfl

theorem getElem?_pulse (b : Bool) {r : Nat} (hr : r < 3) : (pulse b)[r]? = some (decide (r < tHigh b)) := by
  interval_cases r <;> cases b <;> rfl

theorem length_flatMap_pulse (bs : List Bool) : (bs.flatMap pulse).length = bs.length * 3 := by simp [length_pulse]

theorem count_pulse (b : Bool) : (pulse b).count true = 1 + if b == true then 1 else 0 := by cases b <;> rfl

/-- The first tick of every pulse is high. -/
theorem tHigh_pos (b : Bool) : 0 < tHigh b := by cases b <;> decide

/-- The third tick of every pulse is low. -/
theorem tHigh_le_two (b : Bool) : tHigh b ≤ 2 := by cases b <;> decide

/-! ## The bits of a frame in wire order (20_memory.md R53) -/

/-- The 24 bits of a colour word, bit 23 first. -/
def wireBits (w : ColorWord) : List Bool := (List.range 24).map fun q => w.getLsbD (23 - q)

/-- The bits of a frame, cell 0 first. -/
def frameBits (f : Frame) : List Bool := f.toList.flatMap wireBits

theorem length_wireBits (w : ColorWord) : (wireBits w).length = 24 := by simp [wireBits]

theorem length_frameBits (f : Frame) : (frameBits f).length = 600 := by
  simp [frameBits, length_wireBits, N_eq]

theorem wordWave_eq (w : ColorWord) : wordWave w = (wireBits w).flatMap pulse := by
  simp [wordWave, wireBits, List.flatMap_map]

theorem burstWave_eq (f : Frame) : burstWave f = (frameBits f).flatMap pulse := by
  rw [burstWave, frameBits, List.flatMap_assoc, funext wordWave_eq]

theorem wave_eq (f : Frame) : wave f = (frameBits f).flatMap pulse ++ List.replicate 120 false := by
  rw [wave, burstWave_eq, tReset_eq]

/-! ## The closed form (R139) -/

/-- Blocks of n elements laid end to end: element j is in block j / n, at place j % n. -/
theorem getElem?_flatMap_of_length {α β : Type} {g : α → List β} {n : Nat} (hn : 0 < n)
    (hg : ∀ a, (g a).length = n) (l : List α) (j : Nat) :
    (l.flatMap g)[j]? = l[j / n]?.bind fun a => (g a)[j % n]? := by
  induction l generalizing j with
  | nil => simp
  | cons a l ih =>
    rw [List.flatMap_cons]
    rcases Nat.lt_or_ge j n with hj | hj
    · rw [List.getElem?_append_left (by rw [hg]; exact hj), Nat.div_eq_of_lt hj, Nat.mod_eq_of_lt hj]
      rfl
    · rw [List.getElem?_append_right (by rw [hg]; exact hj), hg, ih, Nat.div_eq_sub_div hn hj,
        Nat.mod_eq_sub_mod hj, List.getElem?_cons_succ]

theorem getElem?_wireBits (w : ColorWord) {q : Nat} (hq : q < 24) : (wireBits w)[q]? = some (w.getLsbD (23 - q)) := by
  simp [wireBits, hq]

theorem getElem?_frameBits (f : Frame) {i : Nat} (hi : i < 600) :
    (frameBits f)[i]? = some (wireBit f (i / 24) (i % 24)) := by
  have hc : i / 24 < N := by rw [N_eq]; omega
  rw [frameBits, getElem?_flatMap_of_length (by decide) length_wireBits, Vector.getElem?_toList]
  simp [wireBit, hc, getElem?_wireBits _ (Nat.mod_lt i (by decide : 0 < 24))]

theorem length_wave (f : Frame) : (wave f).length = 1920 := by
  rw [wave_eq, List.length_append, length_flatMap_pulse, length_frameBits, List.length_replicate]

/-- Tick j of a burst is tick j % 3 of the pulse of bit j / 3, which is bit j % 72 / 3 of cell j / 72. -/
theorem waveAt_of_lt (f : Frame) {j : Nat} (hj : j < 1800) :
    waveAt f j = decide (j % 3 < tHigh (wireBit f (j / 72) (j % 72 / 3))) := if_pos hj

theorem waveAt_of_ge (f : Frame) {j : Nat} (hj : 1800 ≤ j) : waveAt f j = false := if_neg (Nat.not_lt.mpr hj)

theorem getElem?_wave (f : Frame) {j : Nat} (hj : j < 1920) : (wave f)[j]? = some (waveAt f j) := by
  have hlen : ((frameBits f).flatMap pulse).length = 1800 := by
    rw [length_flatMap_pulse, length_frameBits]
  rw [wave_eq]
  rcases Nat.lt_or_ge j 1800 with hlt | hge
  · have hcell : j / 3 / 24 = j / 72 := by omega
    have hbit : j / 3 % 24 = j % 72 / 3 := by omega
    rw [List.getElem?_append_left (by omega), getElem?_flatMap_of_length (by decide) length_pulse,
      getElem?_frameBits f (by omega), Option.bind_some, getElem?_pulse _ (Nat.mod_lt j (by decide)),
      waveAt_of_lt f hlt, hcell, hbit]
  · rw [List.getElem?_append_right (by omega), List.getElem?_replicate_of_lt (by omega), waveAt_of_ge f hge]

theorem getElem?_wave_eq_some {f : Frame} {j : Nat} {b : Bool} (h : (wave f)[j]? = some b) : waveAt f j = b := by
  have hj := (List.getElem?_eq_some_iff.mp h).1
  rw [length_wave] at hj
  rw [getElem?_wave f hj] at h
  exact Option.some.inj h

/-- A bit starts high (R137). -/
theorem waveAt_of_first (f : Frame) {j : Nat} (hj : j < 1800) (hr : j % 3 = 0) : waveAt f j = true := by
  rw [waveAt_of_lt f hj, hr]
  exact decide_eq_true (tHigh_pos _)

/-- A bit ends low (R137), and so is the gap. -/
theorem waveAt_of_last (f : Frame) {j : Nat} (hr : j % 3 = 2) : waveAt f j = false := by
  rcases Nat.lt_or_ge j 1800 with hlt | hge
  · rw [waveAt_of_lt f hlt, hr]
    exact decide_eq_false (Nat.not_lt.mpr (tHigh_le_two _))
  · exact waveAt_of_ge f hge

theorem getElem?_wave_ne_true {f : Frame} {j : Nat} (hr : j % 3 = 2) : (wave f)[j]? ≠ some true := fun h => by
  have hlow := waveAt_of_last f hr
  rw [getElem?_wave_eq_some h] at hlow
  cases hlow

theorem getElem?_wave_ne_false {f : Frame} {j : Nat} (hj : j < 1800) (hr : j % 3 = 0) :
    (wave f)[j]? ≠ some false := fun h => by
  have hhigh := waveAt_of_first f hj hr
  rw [getElem?_wave_eq_some h] at hhigh
  cases hhigh

/-! ## High ticks (R140) -/

theorem count_flatMap_pulse (bs : List Bool) : (bs.flatMap pulse).count true = bs.length + bs.count true := by
  induction bs with
  | nil => rfl
  | cons b bs ih =>
    rw [List.flatMap_cons, List.count_append, count_pulse, ih, List.length_cons, List.count_cons]
    omega

/-- Wire order is the bits of a word from the highest down. -/
theorem wireBits_eq_reverse (w : ColorWord) : wireBits w = ((List.range 24).map w.getLsbD).reverse := rfl

theorem count_wireBits (w : ColorWord) : (wireBits w).count true = oneBits w := by
  rw [wireBits_eq_reverse, List.count_reverse, List.count, List.countP_map, oneBits, ← List.countP_eq_length_filter]
  simp [Function.comp_def]

theorem count_frameBits (f : Frame) : (frameBits f).count true = frameOneBits f := by
  rw [frameBits, List.count_flatMap, frameOneBits]
  congr 1
  exact List.map_congr_left fun w _ => count_wireBits w

theorem count_wave (f : Frame) : (wave f).count true = 600 + frameOneBits f := by
  rw [wave_eq, List.count_append, count_flatMap_pulse, length_frameBits, count_frameBits, List.count_replicate]
  rfl

/-! ## The reference decoder (R150) -/

/-- Whatever low ticks came before, a pulse is one run, of the length of its bit. -/
theorem waveBits_pulse_append (b : Bool) (l : Nat) (w : List Bool) :
    waveBits 0 l (pulse b ++ w) = b :: waveBits 0 (tLow b) w := by
  cases b <;> rfl

/-- Low ticks are no run. -/
theorem waveBits_replicate_false (l k : Nat) : waveBits 0 l (List.replicate k false) = [] := by
  induction k generalizing l with
  | zero => rfl
  | succ k ih => simp [List.replicate_succ, waveBits, endRun, ih]

theorem waveBits_flatMap_pulse (bs : List Bool) (l k : Nat) :
    waveBits 0 l (bs.flatMap pulse ++ List.replicate k false) = bs := by
  induction bs generalizing l with
  | nil => exact waveBits_replicate_false l k
  | cons b bs ih => rw [List.flatMap_cons, List.append_assoc, waveBits_pulse_append, ih]

/-- The first q bits of a word in wire order make its q highest bits. -/
theorem wordOfBits_range (w : ColorWord) {q : Nat} (hq : q ≤ 24) :
    wordOfBits ((List.range q).map fun i => w.getLsbD (23 - i)) = w >>> (24 - q) := by
  induction q with
  | zero => exact (BitVec.ushiftRight_eq_zero (Nat.le_refl 24)).symm
  | succ q ih =>
    have hlast : wordOfBits ((List.range (q + 1)).map fun i => w.getLsbD (23 - i)) =
        (w >>> (24 - q)).shiftConcat (w.getLsbD (23 - q)) := by
      rw [← ih (by omega)]
      simp [wordOfBits, List.range_succ]
    rw [hlast]
    ext i hi
    cases i with
    | zero => simp [BitVec.getElem_shiftConcat]
    | succ i => simp; congr 1; omega

theorem wordOfBits_wireBits (w : ColorWord) : wordOfBits (wireBits w) = w :=
  (wordOfBits_range w (Nat.le_refl 24)).trans (BitVec.ushiftRight_zero w)

/-- A group is complete with its 24th bit. -/
theorem groupWords_append {g r : List Bool} (bs : List Bool) (hr : r ≠ []) (hlen : g.length + r.length = 24) :
    groupWords g (r ++ bs) = wordOfBits (g ++ r) :: groupWords [] bs := by
  induction r generalizing g with
  | nil => exact absurd rfl hr
  | cons b r ih =>
    rw [List.length_cons] at hlen
    rw [List.cons_append, groupWords]
    cases r with
    | nil => rw [if_pos (by simpa using hlen)]; rfl
    | cons c r =>
      rw [List.length_cons] at hlen
      rw [if_neg (by omega), ih (List.cons_ne_nil c r) (by simp; omega), List.append_assoc]
      rfl

theorem groupWords_flatMap_wireBits (ws : List ColorWord) : groupWords [] (ws.flatMap wireBits) = ws := by
  induction ws with
  | nil => rfl
  | cons w ws ih =>
    have hne : wireBits w ≠ [] := List.ne_nil_of_length_pos (by rw [length_wireBits]; decide)
    rw [List.flatMap_cons, groupWords_append _ hne (by simp [length_wireBits]), ih, List.nil_append,
      wordOfBits_wireBits]

/-- R151: the pulses give back the bits, and groups of 24 bits the words. -/
theorem decodeWave_wave (f : Frame) : decodeWave (wave f) = f.toList := by
  rw [decodeWave, wave_eq, waveBits_flatMap_pulse, frameBits, groupWords_flatMap_wireBits]

end Sys2Proof.Machine
end

section
/-! PROOFS. A transmission tick by tick: its phases, their order without reset, the waveform they drive and the log they leave (42_transmission_encoder.md R135, R136, R139, R141). -/

namespace Sys2Proof.Machine

open Sys2Proof.Safety (reaches noReset Inv)

variable {s t u : State} {j k : Nat}

/-! ## The position as a number (R139) -/

theorem burstPosition_eq (j : Nat) : burstPosition j = (j / 72, 23 - j % 72 / 3, j % 3) := rfl

/-- The position of a state as the closed form writes it. -/
def State.position (s : State) : Nat × Nat × Nat := (s.cell.toNat, s.biti.toNat, s.tcnt.toNat)

theorem position_eq_burstPosition_iff : s.position = burstPosition j ↔
    s.cell.toNat = j / 72 ∧ s.biti.toNat = 23 - j % 72 / 3 ∧ s.tcnt.toNat = j % 3 := by
  simp [State.position, burstPosition_eq]

theorem position_eq_start (hc : s.cell = 0) (hb : s.biti = 23) (ht : s.tcnt = 0) : s.position = burstPosition 0 := by
  rw [State.position, hc, hb, ht]
  rfl

/-- A position inside the frame is the one of a tick of the burst. -/
theorem exists_position_eq (hc : s.cell.toNat ≤ 24) (hb : s.biti.toNat ≤ 23) (ht : s.tcnt.toNat ≤ 2) :
    ∃ j, j < 1800 ∧ s.position = burstPosition j := by
  refine ⟨s.cell.toNat * 72 + (23 - s.biti.toNat) * 3 + s.tcnt.toNat, by omega, ?_⟩
  rw [position_eq_burstPosition_iff]
  omega

/-! ## The phases -/

/-- The block j ticks into a transmission without reset: in the burst, in the gap behind it, and ready at the end. -/
inductive TxPhase (j : Nat) (s : State) : Prop where
  | burst (hj : j < 1800) (hs : s.st = .shift) (hpos : s.position = burstPosition j)
  | gap (hj : j < 1920) (hs : s.st = .gap) (hcount : s.gcnt.toNat + 1800 = j)
  | ready (hj : j = 1920) (hs : s.st = .idle)

theorem TxPhase.burst_of_lt (h : TxPhase j s) (hj : j < 1800) : s.st = .shift ∧ s.position = burstPosition j := by
  cases h with
  | burst _ hs hpos => exact ⟨hs, hpos⟩
  | gap | ready => omega

theorem TxPhase.gap_of_mem (h : TxPhase j s) (h0 : 1800 ≤ j) (hj : j < 1920) : s.st = .gap := by
  cases h with
  | burst | ready => omega
  | gap _ hs => exact hs

theorem TxPhase.idle_of_eq (h : TxPhase j s) (hj : j = 1920) : s.st = .idle := by
  cases h with
  | burst | gap => omega
  | ready _ hs => exact hs

/-- The first position of a burst is its tick 0. -/
theorem txPhase_zero (hs : s.st = .shift) (hc : s.cell = 0) (hb : s.biti = 23) (ht : s.tcnt = 0) : TxPhase 0 s :=
  .burst (by decide) hs (position_eq_start hc hb ht)

theorem txPhase_enterGap (s : State) : TxPhase 1800 s.enterGap := .gap (by decide) rfl rfl

theorem exists_txPhase_of_shift (h : Inv s) (hs : s.st = .shift) : ∃ j, j < 1800 ∧ TxPhase j s := by
  obtain ⟨hc, hb, ht⟩ := h.position hs
  obtain ⟨j, hj, hpos⟩ := exists_position_eq hc hb ht
  exact ⟨j, hj, .burst hj hs hpos⟩

/-- A command that enters `SHIFT` enters it at the first position (R164). -/
theorem txPhase_of_accept (hs : s.st = .idle) (hr : s.input.rst = false) (hv : s.input.cmdValid = true)
    (h : step s = .next t) (ht : t.st = .shift) : TxPhase 0 t := by
  rw [step_of_accept hs hr hv] at h
  obtain rfl | ⟨-, hc, hb, htc⟩ := exec_same_or_starts h
  · cases hs.symm.trans ht
  · exact txPhase_zero ht hc hb htc

/-! ## One tick leads to the next phase (R135, R136) -/

theorem stepShift_frame (s : State) : (stepShift s).frame = s.frame := by
  obtain ⟨-, h⟩ | ⟨-, -, h⟩ | ⟨-, -, -, h⟩ | ⟨-, -, -, h⟩ := stepShift_cases s <;> rw [h]

theorem stepGap_frame (s : State) : (stepGap s).frame = s.frame := by
  obtain ⟨-, h⟩ | ⟨-, h⟩ := stepGap_cases s <;> rw [h]

/-- In `SHIFT`, registers with the digits of j are at tick j of the burst. -/
theorem txPhase_setPosition (hs : s.st = .shift) (hj : j < 1800) {c b : BitVec 5} {t : BitVec 2}
    (hc : c.toNat = j / 72) (hb : b.toNat = 23 - j % 72 / 3) (ht : t.toNat = j % 3) :
    TxPhase j { s with cell := c, biti := b, tcnt := t } :=
  .burst hj hs (position_eq_burstPosition_iff.mpr ⟨hc, hb, ht⟩)

/-- The four cases of the rule are the carries of the closed form's digits. -/
theorem txPhase_stepShift (hj : j < 1800) (hs : s.st = .shift) (hpos : s.position = burstPosition j) :
    TxPhase (j + 1) (stepShift s) := by
  obtain ⟨hc, hb, ht⟩ := position_eq_burstPosition_iff.mp hpos
  obtain ⟨htc, h⟩ | ⟨htc, hbi, h⟩ | ⟨htc, hbi, hce, h⟩ | ⟨htc, hbi, hce, h⟩ := stepShift_cases s <;> rw [h]
  · have hnext : (s.tcnt + 1).toNat = s.tcnt.toNat + 1 := by bv_omega
    exact txPhase_setPosition hs (by omega) (by omega) (by omega) (by omega)
  · have hnext : (s.biti - 1).toNat = s.biti.toNat - 1 := by bv_omega
    have htc0 : 0 = (j + 1) % 3 := by omega
    exact txPhase_setPosition hs (by omega) (by omega) (by omega) htc0
  · have hnext : (s.cell + 1).toNat = s.cell.toNat + 1 := by bv_omega
    have htc0 : 0 = (j + 1) % 3 := by omega
    have hb23 : 23 = 23 - (j + 1) % 72 / 3 := by omega
    exact txPhase_setPosition hs (by omega) (by omega) hb23 htc0
  · have hlast : j + 1 = 1800 := by omega
    exact hlast ▸ .gap (by decide) rfl rfl

theorem txPhase_stepGap (hj : j < 1920) (hs : s.st = .gap) (hcount : s.gcnt.toNat + 1800 = j) :
    TxPhase (j + 1) (stepGap s) := by
  obtain ⟨hg, h⟩ | ⟨hg, h⟩ := stepGap_cases s <;> rw [h]
  · have hnext : (s.gcnt + 1).toNat = s.gcnt.toNat + 1 := by bv_omega
    exact .gap (by omega) hs (by rw [hnext]; omega)
  · exact .ready (by omega) rfl

theorem TxPhase.exists_next (h : TxPhase j s) (hj : j < 1920) (hr : s.input.rst = false) :
    ∃ t, step s = .next t ∧ TxPhase (j + 1) t ∧ t.frame = s.frame := by
  cases h with
  | burst hj hs hpos =>
    exact ⟨_, step_of_shift hs hr, txPhase_stepShift (s := s.elapse) hj hs hpos, stepShift_frame s.elapse⟩
  | gap hj hs hcount =>
    exact ⟨_, step_of_gap hs hr, txPhase_stepGap (s := s.elapse) hj hs hcount, stepGap_frame s.elapse⟩
  | ready => omega

/-! ## Runs (R141) -/

theorem TxPhase.run (h : TxPhase j s) (hk : j + k ≤ 1920) (hr : noReset s k) :
    ∃ t, reaches k s t ∧ TxPhase (j + k) t ∧ t.frame = s.frame := by
  induction k generalizing j s with
  | zero => exact ⟨s, rfl, h, rfl⟩
  | succ k ih =>
    obtain ⟨u, hstep, hu, hframe⟩ := h.exists_next (by omega) (noReset_head hr)
    obtain ⟨t, hrun, ht, hframe'⟩ := ih hu (by omega) (noReset_tail hstep hr)
    refine ⟨t, (reaches_succ hstep).mpr hrun, ?_, hframe'.trans hframe⟩
    rwa [Nat.add_assoc, Nat.add_comm 1] at ht

theorem TxPhase.run_to_idle (h : TxPhase j s) (hk : j + k = 1920) (hr : noReset s k) :
    ∃ t, reaches k s t ∧ t.st = .idle := by
  obtain ⟨t, hrun, ht, -⟩ := h.run hk.le hr
  exact ⟨t, hrun, ht.idle_of_eq hk⟩

/-! ## What the block drives meanwhile (R137) -/

theorem TxPhase.dout_eq (h : TxPhase j s) : s.dout = waveAt s.frame j := by
  cases h with
  | burst hj hs hpos =>
    obtain ⟨hc, hb, ht⟩ := position_eq_burstPosition_iff.mp hpos
    have hcell : s.cell.toNat < Config.N := by rw [Config.N]; omega
    have hcell' : j / 72 < Config.N := hc ▸ hcell
    have hbit : s.frameBit = wireBit s.frame (j / 72) (j % 72 / 3) := by
      rw [frameBit_of_inside hcell (by omega)]
      simp [wireBit, hcell', hc, hb]
    rw [waveAt_of_lt _ hj, ← hbit, ← ht]
    simp [State.dout, hs]
  | gap hj hs hcount => rw [dout_of_ne_shift (by simp [hs]), waveAt_of_ge _ (by omega)]
  | ready hj hs => rw [dout_of_ne_shift (by simp [hs]), waveAt_of_ge _ (by omega)]

theorem TxPhase.not_ready (h : TxPhase j s) (hj : j < 1920) : s.cmdReady = false := by
  cases h with
  | burst _ hs | gap _ hs => simp [State.cmdReady, hs]
  | ready => omega

/-! ## What it logs meanwhile (R136) -/

/-- Until the last tick of the gap nothing is logged, and the log keeps its Bool. -/
theorem TxPhase.tickEvents_of_lt (h : TxPhase j s) (hj : j < 1919) (inTx : Bool) (n : Nat) :
    tickEvents inTx n s = [] := by
  cases h with
  | burst hj hs => exact tickEvents_of_shift inTx n hs
  | gap _ hs hcount => exact tickEvents_of_gap_counting inTx n hs (by omega)
  | ready => omega

theorem TxPhase.burstGoesOn_eq (h : TxPhase j s) (ht : TxPhase (j + 1) t) (hj : j < 1919) {inTx : Bool}
    (hin : j < 1800 → inTx = true) : burstGoesOn inTx s.st t.st = inTx := by
  cases h with
  | burst hj hs =>
    cases ht with
    | burst _ ht | gap _ ht => simp [burstGoesOn, hs, ht, hin hj]
    | ready => omega
  | gap _ hs hcount => simp [burstGoesOn, hs, ht.gap_of_mem (by omega) (by omega)]
  | ready => omega

/-- The rest of a transmission, or of the gap at start-up, logs the one `Done` of its last tick, or nothing. -/
theorem TxPhase.eventLog_eq (h : TxPhase j s) (hk : j + (k + 1) = 1920) (hr : noReset s (k + 1)) {inTx : Bool}
    (hin : j < 1800 → inTx = true) (n : Nat) :
    eventLog inTx n (k + 1) s = if inTx then [.done (n + k + 1)] else [] := by
  induction k generalizing j s n with
  | zero =>
    obtain ⟨t, hstep, -⟩ := h.exists_next (by omega) (noReset_head hr)
    cases h with
    | gap _ hs hcount =>
      rw [eventLog_succ inTx n 0 hstep, tickEvents_of_gap_last inTx n hs (noReset_head hr) (by omega)]
      exact List.append_nil _
    | burst | ready => omega
  | succ k ih =>
    obtain ⟨t, hstep, ht, -⟩ := h.exists_next (by omega) (noReset_head hr)
    have hlater := ih ht (by omega) (noReset_tail hstep hr) (fun hj => hin (by omega)) (n + 1)
    rw [eventLog_succ inTx n (k + 1) hstep, h.tickEvents_of_lt (by omega), h.burstGoesOn_eq ht (by omega) hin, hlater,
      List.nil_append, Nat.add_right_comm n 1 k, Nat.add_assoc n k 1]

end Sys2Proof.Machine
end

section
/-! PROOFS. The low ticks before a burst, counted along a run from reset (42_transmission_encoder.md R142): the state alone tells how many there were at least. -/

namespace Sys2Proof.Machine

open Sys2Proof.Safety (reaches Inv inv_toReset)

variable {s t u : State} {j k m n : Nat}

/-! ## The count a state stands for -/

/-- The low ticks in a row that must have come before a state: those of the gap so far, the whole gap in a ready block, and the accept tick too at the start of a burst. -/
def State.quietTicks (s : State) : Nat :=
  match s.st with
  | .gap => s.gcnt.toNat
  | .idle => 120
  | .shift => if s.position = burstPosition 0 then 121 else 0
  | .uninit | .halted => 0

theorem quietTicks_of_gap (hs : s.st = .gap) : s.quietTicks = s.gcnt.toNat := by simp [State.quietTicks, hs]

theorem quietTicks_of_idle (hs : s.st = .idle) : s.quietTicks = 120 := by simp [State.quietTicks, hs]

theorem quietTicks_of_off (hs : s.st = .uninit ∨ s.st = .halted) : s.quietTicks = 0 := by
  obtain hs | hs := hs <;> simp [State.quietTicks, hs]

theorem quietTicks_of_start (hs : s.st = .shift) (hpos : s.position = burstPosition 0) : s.quietTicks = 121 := by
  simp [State.quietTicks, hs, hpos]

theorem burstPosition_ne_start (h0 : 0 < j) (hj : j < 1800) : burstPosition j ≠ burstPosition 0 := by
  simp only [burstPosition_eq, ne_eq, Prod.mk.injEq]
  omega

/-- A `SHIFT` tick never leads to the start of a burst, and it enters the gap at its first count. -/
theorem quietTicks_stepShift (h : Inv s) (hs : s.st = .shift) : (stepShift s).quietTicks = 0 := by
  obtain ⟨j, hj, hphase⟩ := exists_txPhase_of_shift h hs
  obtain ⟨-, hpos⟩ := hphase.burst_of_lt hj
  cases txPhase_stepShift hj hs hpos with
  | burst hj' hs' hpos' => simp [State.quietTicks, hs', hpos', burstPosition_ne_start (Nat.succ_pos j) hj']
  | gap _ hs' hcount => rw [quietTicks_of_gap hs']; omega
  | ready => omega

theorem quietTicks_stepGap_le (hs : s.st = .gap) : (stepGap s).quietTicks ≤ s.gcnt.toNat + 1 := by
  obtain ⟨hg, h⟩ | ⟨hg, h⟩ := stepGap_cases s <;> rw [h]
  · have hle : (s.gcnt + 1).toNat ≤ s.gcnt.toNat + 1 := by bv_omega
    exact (quietTicks_of_gap (s := { s with gcnt := s.gcnt + 1 }) hs).trans_le hle
  · rw [quietTicks_of_idle rfl]
    exact Nat.succ_le_succ hg

/-- A tick adds one low tick to the count at most, and only if it is low itself. -/
theorem quietTicks_step (h : Inv s) (hstep : step s = .next t) :
    t.quietTicks = 0 ∨ (s.dout = false ∧ t.quietTicks ≤ s.quietTicks + 1) := by
  obtain ⟨-, rfl⟩ | ⟨-, -, rfl⟩ | ⟨-, hs, rfl⟩ | ⟨-, hs, -, rfl⟩ | ⟨-, hs, -, he⟩ | ⟨-, hs, rfl⟩ |
    ⟨-, hs, rfl⟩ := step_cases hstep
  · exact .inl rfl
  · obtain ⟨-, -, h'⟩ | ⟨-, h'⟩ := stepUninit_cases Config.platform s.input.cfgChanOk s.elapse <;>
      rw [h'] <;> exact .inl rfl
  · exact .inl (quietTicks_of_off (.inr hs))
  · exact .inr ⟨dout_of_ne_shift (by simp [hs]), Nat.le_succ _⟩
  · refine .inr ⟨dout_of_ne_shift (by simp [hs]), ?_⟩
    rw [quietTicks_of_idle hs]
    obtain rfl | ⟨ht, hc, hb, htc⟩ := exec_same_or_starts he
    · rw [quietTicks_of_idle (s := s.elapse) hs]; decide
    · rw [quietTicks_of_start ht (position_eq_start hc hb htc)]
  · exact .inl (quietTicks_stepShift (Sys2Proof.Safety.elapse_keeps_inv h) hs)
  · refine .inr ⟨dout_of_ne_shift (by simp [hs]), ?_⟩
    rw [quietTicks_of_gap hs]
    exact quietTicks_stepGap_le (s := s.elapse) hs

/-! ## The count along a run -/

/-- The run of k ticks from s had `dout` low in each of its last m ticks. -/
def LowBefore (s : State) (k m : Nat) : Prop :=
  m ≤ k ∧ ∀ d, 1 ≤ d → d ≤ m → ∃ u, reaches (k - d) s u ∧ u.dout = false

theorem lowBefore_zero (s : State) (k : Nat) : LowBefore s k 0 := ⟨Nat.zero_le k, fun _ h0 h1 => by omega⟩

theorem LowBefore.mono (h : LowBefore s k n) (hm : m ≤ n) : LowBefore s k m :=
  by
  obtain ⟨hle, hlow⟩ := h
  exact ⟨hm.trans hle, fun d h0 h1 => hlow d h0 (h1.trans hm)⟩

theorem LowBefore.succ (h : LowBefore s k m) (hrun : reaches k s t) (hlow : t.dout = false) :
    LowBefore s (k + 1) (m + 1) := by
  obtain ⟨hle, hbefore⟩ := h
  refine ⟨Nat.succ_le_succ hle, fun d h0 h1 => ?_⟩
  obtain ⟨d, rfl⟩ := Nat.exists_eq_add_of_le' h0
  rw [Nat.add_sub_add_right]
  cases d with
  | zero => exact ⟨t, hrun, hlow⟩
  | succ d => exact hbefore (d + 1) (Nat.succ_pos d) (Nat.le_of_succ_le_succ h1)

/-- From a reset state, the count that a state stands for was really there. -/
theorem lowBefore_quietTicks (hs : s.toReset = s) (h : reaches k s t) : LowBefore s k t.quietTicks := by
  have hinv : Inv s := hs ▸ inv_toReset s
  have hstart : s.quietTicks = 0 := quietTicks_of_off (.inl (hs ▸ s.toReset_st))
  refine reaches_induction (P := fun j v => LowBefore s j v.quietTicks) h ?_ fun j v w hv hlow hstep => ?_
  · rw [hstart]
    exact lowBefore_zero s 0
  · obtain hz | ⟨hd, hle⟩ := quietTicks_step (reaches_keeps_inv hv hinv) hstep
    · rw [hz]
      exact lowBefore_zero s (j + 1)
    · exact (hlow.succ hv hd).mono hle

end Sys2Proof.Machine
end

section
/-! PROOFS. The block after a failed check: nothing changes and nothing is logged (42_transmission_encoder.md R133). -/

namespace Sys2Proof.Machine

open Sys2Proof.Safety (reaches noReset sameRegisters)

variable {s t : State} {k : Nat}

theorem sameRegisters_of_elapse (h : sameRegisters s.elapse t) : sameRegisters s t := by
  unfold sameRegisters at h ⊢
  exact congrArg (fun v : State => { v with inputs := s.inputs, tick := s.tick }) h

theorem sameRegisters_st (h : sameRegisters s t) : t.st = s.st := by
  unfold sameRegisters at h
  exact (congrArg State.st h :)

theorem run_of_halted (hs : s.st = .halted) (hr : noReset s k) : ∃ t, reaches k s t ∧ sameRegisters s t := by
  induction k generalizing s with
  | zero => exact ⟨s, rfl, rfl⟩
  | succ k ih =>
    have hstep := step_of_halted hs (noReset_head hr)
    obtain ⟨t, hrun, ht⟩ := ih (s := s.elapse) hs (noReset_tail hstep hr)
    exact ⟨t, (reaches_succ hstep).mpr hrun, sameRegisters_of_elapse ht⟩

theorem eventLog_of_halted (hs : s.st = .halted) (hr : noReset s k) (inTx : Bool) (n : Nat) :
    eventLog inTx n k s = [] := by
  induction k generalizing s inTx n with
  | zero => rfl
  | succ k ih =>
    have hstep := step_of_halted hs (noReset_head hr)
    rw [eventLog_succ inTx n k hstep, tickEvents_of_halted inTx n hs, ih (s := s.elapse) hs (noReset_tail hstep hr),
      List.append_nil]

end Sys2Proof.Machine
end

section
/-! PROOFS. The check of a built machine, with the parameters of its own set (42_transmission_encoder.md R132). -/

namespace Sys2Proof.Machine

variable {p : Config.ParamSet} {s : BuiltState p.n}

theorem builtStep_of_uninit (hs : s.st = .uninit) (hr : s.input.rst = false) :
    builtStep p s = .next (builtUninit p s.input.cfgChanOk s.elapse) := by
  simp [builtStep, builtNext, hs, hr]

theorem builtGood_eq_false_iff (p : Config.ParamSet) (ok : Bool) :
    builtGood p ok = false ↔ ok = false ∨ p.platform.patLen ≠ p.n := by
  rw [Bool.eq_false_iff, ne_eq, builtGood_iff, not_and_or, Bool.not_eq_true]

theorem builtUninit_of_good {ok : Bool} (h : builtGood p ok = true) : builtUninit p ok s = s.enterGap := if_pos h

theorem builtUninit_of_bad {ok : Bool} (h : builtGood p ok = false) : builtUninit p ok s = s.halt :=
  if_neg (Bool.not_eq_true _ ▸ h)

theorem builtTickEvents_of_uninit (hs : s.st = .uninit) (hr : s.input.rst = false) (inTx : Bool) (n : Nat) :
    builtTickEvents p inTx n s = if builtGood p s.input.cfgChanOk then [] else [.halt n] := by
  simp [builtTickEvents, eventsOf, hs, hr]

end Sys2Proof.Machine
end

section
/-! PROOFS. The statements of 42_transmission_encoder.md. -/

namespace Sys2Proof.Machine

/-- Settles O40: a position in `SHIFT` or a count in `GAP` is a phase of a transmission, and each tick leads to the next phase. -/
theorem transmissionRunsToCompletion : Obligations.TransmissionRunsToCompletion := by
  refine fun s h => ⟨fun hs hr => ?_, fun hs hr => ?_⟩
  · obtain ⟨j, hj, hphase⟩ := exists_txPhase_of_shift h hs
    obtain ⟨t, hrun, ht⟩ := hphase.run_to_idle (k := 1920 - j) (by omega) (noReset_mono hr (Nat.sub_le 1920 j))
    exact ⟨_, t, Nat.sub_le 1920 j, hrun, ht⟩
  · have hg : s.gcnt.toNat ≤ 119 := h.gapCount hs
    have hphase : TxPhase (s.gcnt.toNat + 1800) s := .gap (by omega) hs rfl
    have hle : 120 - s.gcnt.toNat ≤ 120 := Nat.sub_le ..
    obtain ⟨t, hrun, ht⟩ := hphase.run_to_idle (k := 120 - s.gcnt.toNat) (by omega) (noReset_mono hr hle)
    exact ⟨_, t, hle, hrun, ht⟩

/-- Settles O42: the start of a burst stands for `T_RESET + 1` low ticks, and along a run from reset they were there. -/
theorem resetGapBeforeEveryBurst : Obligations.ResetGapBeforeEveryBurst := by
  intro s t k hs hrun ht hc hb htc
  have hquiet : t.quietTicks = 121 := quietTicks_of_start ht (position_eq_start hc hb htc)
  have hlow := lowBefore_quietTicks hs hrun
  rwa [hquiet] at hlow

/-- Settles O52: the accepted command enters phase 0, and in phase j the block drives tick j of the closed form. -/
theorem steppingDrivesTheWave : Obligations.SteppingDrivesTheWave := by
  intro s u hs hv hr hstep hu
  have hphase := txPhase_of_accept hs (noReset_head hr) hv hstep hu
  refine ⟨dout_of_ne_shift (by simp [hs]), fun j hj => ?_⟩
  obtain ⟨t, hrun, ht, hframe⟩ := hphase.run (k := j) (by rwa [Nat.zero_add]) (noReset_mono (noReset_tail hstep hr) hj)
  rw [Nat.zero_add] at ht
  refine ⟨t, (reaches_succ hstep).mpr hrun, hframe, ht.burst_of_lt, ht.gap_of_mem, fun hlt => ⟨?_, ht.not_ready hlt⟩,
    fun hend => ⟨ht.idle_of_eq hend, (cmdReady_iff t).mpr (ht.idle_of_eq hend)⟩⟩
  rw [getElem?_wave _ hlt, ht.dout_eq, hframe]

/-- Settles O53: a pulse is a run that stands for its bit, and the gap is no run. -/
theorem decodedWaveIsTheFrame : Obligations.DecodedWaveIsTheFrame := decodeWave_wave

/-- Settles O11: no case of a tick and no meaning of an instruction answers anything else. -/
theorem everyStepAnswersNext : Obligations.EveryStepAnswersNext := ⟨step_answers_next, exec_answers_next⟩

/-- Settles O14: the check is the conjunction of the strap and the row length, here and for a built machine. -/
theorem initialisationCheck : Obligations.InitialisationCheck := by
  refine ⟨fun s inTx n hs hr => ⟨step_of_uninit hs hr, tickEvents_of_uninit inTx n hs hr⟩,
    fun p ok s => ⟨fun h => ?_, fun h => ?_⟩, fun p s inTx n hs hr => ⟨fun h => ?_, fun h => ?_⟩⟩
  · have hgood := (configGood_iff p ok).mpr h
    exact ⟨hgood, stepUninit_of_good hgood⟩
  · have hbad := (configGood_eq_false_iff p ok).mpr h
    exact ⟨hbad, stepUninit_of_bad hbad⟩
  · have hgood := (builtGood_iff p _).mpr h
    rw [builtStep_of_uninit hs hr, builtTickEvents_of_uninit hs hr, builtUninit_of_good hgood, hgood]
    exact ⟨rfl, rfl⟩
  · have hbad := (builtGood_eq_false_iff p _).mpr h
    rw [builtStep_of_uninit hs hr, builtTickEvents_of_uninit hs hr, builtUninit_of_bad hbad, hbad]
    exact ⟨rfl, rfl⟩

/-- Settles O15: a halted tick lets only the inputs move on, and only the reset case leads elsewhere. -/
theorem haltedIsAbsorbing : Obligations.HaltedIsAbsorbing := by
  refine ⟨fun s k hs hr => ?_, fun s t hs hstep ht => ?_⟩
  · obtain ⟨t, hrun, hregs⟩ := run_of_halted hs hr
    have ht : t.st = .halted := (sameRegisters_st hregs).trans hs
    exact ⟨t, hrun, hregs, by simp [State.cmdReady, ht], dout_of_ne_shift (by simp [ht]), (isHalted_iff t).mpr ht,
      eventLog_of_halted hs hr⟩
  · by_contra hr
    rw [step_of_halted hs (Bool.eq_false_iff.mpr hr)] at hstep
    cases hstep
    exact ht hs

/-- Settles O17: the word is executed in the accept tick, and a command changes nothing or starts a transmission. -/
theorem idleAcceptsInOneTick : Obligations.IdleAcceptsInOneTick := by
  refine fun s inTx n hs hr => ⟨dout_of_ne_shift (by simp [hs]), fun hv => ?_, fun hv => ?_⟩
  · exact ⟨step_of_no_command hs hr hv, tickEvents_of_no_command inTx n hs hv⟩
  · have hexec := step_of_accept hs hr hv
    obtain ⟨t, ht⟩ := step_answers_next s
    refine ⟨hexec, ?_, t, ht, exec_same_or_starts (hexec.symm.trans ht)⟩
    rw [tickEvents_of_accept inTx n hs hr hv ht]
    exact accept_mem_acceptedEvents ..

/-- Settles O19: the gap is entered from `SHIFT`, from `UNINIT` or from itself, and its counter ends it. -/
theorem gapCountsToIdle : Obligations.GapCountsToIdle := by
  refine ⟨fun s t inTx hstep ht => ?_, fun s inTx n hs hr => ?_⟩
  · have hbool : nextInTx inTx s (.next t) = (s.st == .shift || (inTx && s.st == .gap)) := by
      rw [nextInTx, ht]
      rfl
    rw [hbool]
    obtain hs | hs | hs := st_of_step_to_gap hstep ht <;> simp [hs]
  · refine ⟨dout_of_ne_shift (by simp [hs]), by simp [State.cmdReady, hs], fun hg => ?_, fun hg => ?_⟩
    · rw [step_of_gap hs hr, stepGap_of_lt (s := s.elapse) hg]
      exact ⟨rfl, tickEvents_of_gap_counting inTx n hs hg⟩
    · rw [step_of_gap hs hr, stepGap_of_ge (s := s.elapse) hg]
      exact ⟨rfl, tickEvents_of_gap_last inTx n hs hr hg⟩

/-- Settles O51: bit by bit, the pulses of a frame are the closed form. -/
theorem waveHasItsClosedForm : Obligations.WaveHasItsClosedForm :=
  fun f => ⟨length_wave f, fun _ hj => getElem?_wave f hj⟩

/-- Settles O54: a pulse has one high tick, and one more for a 1. -/
theorem highTicksOfAFrame : Obligations.HighTicksOfAFrame := count_wave

/-- Settles O55: of three ticks in a row one starts a bit, which is high inside the burst, and one ends a bit, which is low. -/
theorem noThreeEqualTicksInABurst : Obligations.NoThreeEqualTicksInABurst := by
  refine fun f j => ⟨fun ⟨h0, h1, h2⟩ => ?_, fun hj ⟨h0, h1, h2⟩ => ?_⟩
  · obtain h | h | h : j % 3 = 2 ∨ (j + 1) % 3 = 2 ∨ (j + 2) % 3 = 2 := by omega
    · exact getElem?_wave_ne_true h h0
    · exact getElem?_wave_ne_true h h1
    · exact getElem?_wave_ne_true h h2
  · rw [burstTicks_eq] at hj
    obtain h | h | h : j % 3 = 0 ∨ (j + 1) % 3 = 0 ∨ (j + 2) % 3 = 0 := by omega
    · exact getElem?_wave_ne_false (by omega) h h0
    · exact getElem?_wave_ne_false (by omega) h h1
    · exact getElem?_wave_ne_false (by omega) h h2

/-- Settles O59: after the two events of the accept tick the phases log the `Done` of the last; the start-up is the phases of the gap without a burst before. -/
theorem oneDonePerCompletedTransmission : Obligations.OneDonePerCompletedTransmission := by
  refine ⟨fun s u inTx n hs hv hr hstep hu => ?_, fun s inTx n hs hok hr => ?_⟩
  · have hphase := txPhase_of_accept hs (noReset_head hr) hv hstep hu
    have hgoes : burstGoesOn inTx s.st u.st = true := by rw [hu]; rfl
    have hlater : eventLog true (n + 1) Config.frameTicks u = [.done (n + Config.frameTicks + 1)] :=
      hphase.eventLog_eq (k := 1919) rfl (noReset_tail hstep hr) (fun _ => rfl) (n + 1)
    rw [eventLog_succ inTx n _ hstep, tickEvents_of_accept inTx n hs (noReset_head hr) hv hstep, hgoes, hlater,
      acceptedEvents, if_pos hu]
    rfl
  · have hst : s.st = .uninit := hs ▸ s.toReset_st
    have hgood : configGood Config.platform s.input.cfgChanOk = true := (configGood_platform _).trans hok
    have hstep : step s = .next s.elapse.enterGap := by
      rw [step_of_uninit hst (noReset_head hr), stepUninit_of_good hgood]
    have hlater : eventLog false (n + 1) Config.tReset s.elapse.enterGap = [] :=
      (txPhase_enterGap s.elapse).eventLog_eq (k := 119) rfl (noReset_tail hstep hr) (fun h => by omega) (n + 1)
    have hgoes : burstGoesOn inTx s.st s.elapse.enterGap.st = false := by simp [burstGoesOn, hst]
    rw [eventLog_succ inTx n _ hstep, tickEvents_of_uninit inTx n hst (noReset_head hr), if_pos hgood, hgoes, hlater]
    rfl

/-- Settles O8: the tick is the acceptance of R134. -/
theorem stepRunsDecodedCommand : Obligations.StepRunsDecodedCommand := by
  rintro s _ hs hr hv rfl -
  exact step_of_accept hs hr hv

/-- Settles O18: the four cases of the rule, with the inputs moved on. -/
theorem shiftAdvancesPosition : Obligations.ShiftAdvancesPosition := by
  intro s hs hr
  rw [step_of_shift hs hr]
  exact ⟨fun inTx n => tickEvents_of_shift inTx n hs, fun ht => congrArg _ (stepShift_of_tcnt_lt (s := s.elapse) ht),
    fun ht hb => congrArg _ (stepShift_of_biti_pos (s := s.elapse) ht hb),
    fun ht hb hc => congrArg _ (stepShift_of_cell_lt (s := s.elapse) ht hb hc),
    fun ht hb hc => congrArg _ (stepShift_of_last (s := s.elapse) ht hb hc)⟩

/-- Settles O50: two high ticks of a 1, one of a 0. -/
theorem pulseShapes : Obligations.PulseShapes := ⟨pulse_true, pulse_false, length_pulse⟩

end Sys2Proof.Machine
end

section
/-! PROOFS. What a tick reads of its inputs, and the word the port carries for a table word (30_encoding.md R74; 43_animation_controller.md R160). -/

namespace Sys2Proof.Machine

open Sys2Proof.Config (Input)

/-- Outside `IDLE` the command port is not read, and outside `UNINIT` the strap is not. -/
theorem stepWith_congr {s : State} {i j : Input} (hs : s.st ≠ .idle) (hr : i.rst = j.rst)
    (hok : s.st = .uninit → i.cfgChanOk = j.cfgChanOk) : stepWith i s = stepWith j s := by
  unfold stepWith
  rw [hr]
  cases h : s.st with
  | uninit => rw [hok h]
  | idle => exact absurd h hs
  | halted | shift | gap => rfl

theorem tablePortWord_of_some {nbits w : Nat} {e : Encoded} (h : tableEncoded nbits w = some e) :
    tablePortWord nbits w = portWord e := by
  simp [tablePortWord, h]

/-- On the port a command word is itself, and a character is a `CHAR` word, which runs the character's row. -/
theorem exec_portWord (e : Encoded) (s : State) : exec (decodeCmd (portWord e)) s = exec (decode e) s := by
  cases e with
  | cw64 cw => rfl
  | chr8 c =>
    rw [portWord, decodeCmd_of_char (opOf_packCmd ..), chrOf_packCmd]
    exact exec_char c s

end Sys2Proof.Machine
end

section
/-! PROOFS. The commands: the branches of `EXEC_CHAR`, what a render depends on, and that an instruction renders or clears if it is in the list of R183 and changes nothing otherwise (43_animation_controller.md R161 to R165, R175). -/

namespace Sys2Proof.Machine

open Sys2Proof.Config (Platform)
open Sys2Proof.Safety (Rendered Cleared transmits sameRegisters)

variable {s s' t : State}

/-! ## The selecting branches of `EXEC_CHAR` (R175) -/

section Characters
variable {c : Byte} (p : Platform)

theorem execCharacter_of_digit (h : 0x30 ≤ c.toNat ∧ c.toNat ≤ 0x39) :
    execCharacter p s c = doRender p s (BitVec.ofNat 4 (c.toNat - 0x30)) p.defaultOnColor := if_pos h

theorem execCharacter_of_on (h : c = 0x4C ∨ c = 0x6C) :
    execCharacter p s c = doRender p s Config.powerOnSymbol p.defaultOnColor := by
  obtain rfl | rfl := h <;> rfl

theorem execCharacter_of_off (h : c = 0x44 ∨ c = 0x64) : execCharacter p s c = doClear s := by
  obtain rfl | rfl := h <;> rfl

/-- The value of a digit character has a pattern. -/
theorem selectSymbol_digitValue {v : Nat} (h : v < 10) : selectSymbol (BitVec.ofNat 4 v) = some ⟨v, h⟩ := by
  have hv : (BitVec.ofNat 4 v).toNat = v := by rw [BitVec.toNat_ofNat, Nat.mod_eq_of_lt (by omega)]
  rw [selectSymbol_of_lt (by rwa [hv])]
  simp only [hv]

end Characters

/-! ## What each command does to any state -/

theorem exec_char_of_digit {c : Byte} (h : c.toNat - 0x30 < 10) (h0 : 0x30 ≤ c.toNat) :
    ∃ t, exec (.char c) s = .next t ∧ Rendered s t ⟨c.toNat - 0x30, h⟩ Config.defaultOnColor :=
  ⟨_, congrArg Host.Outcome.next (execCharacter_of_digit Config.platform ⟨h0, by omega⟩),
    rendered_doRender (selectSymbol_digitValue h) _⟩

theorem exec_char_of_on {c : Byte} (h : c = 0x4C ∨ c = 0x6C) :
    ∃ t, exec (.char c) s = .next t ∧ Rendered s t 0 Config.defaultOnColor :=
  ⟨_, congrArg Host.Outcome.next (execCharacter_of_on Config.platform h), rendered_doRender rfl _⟩

theorem exec_char_of_off {c : Byte} (h : c = 0x44 ∨ c = 0x64) : ∃ t, exec (.char c) s = .next t ∧ Cleared s t :=
  ⟨_, congrArg Host.Outcome.next (execCharacter_of_off Config.platform h), cleared_doClear⟩

theorem exec_char_of_notMem {c : Byte} (h : c ∉ selectingCodes) : exec (.char c) s = .next s :=
  congrArg _ (execCharacter_of_notMem h Config.platform)

theorem exec_render_of_lt {sym : SymField} (h : sym.toNat < 10) (r g b : ChanCode) :
    ∃ t, exec (.render sym r g b) s = .next t ∧ Rendered s t ⟨sym.toNat, h⟩ ⟨r, g, b⟩ :=
  ⟨_, rfl, rendered_doRender (selectSymbol_of_lt h) _⟩

theorem exec_render_of_gt {sym : SymField} (h : 9 < sym.toNat) (r g b : ChanCode) :
    exec (.render sym r g b) s = .next s :=
  congrArg _ (doRender_of_none (selectSymbol_of_ge h))

theorem exec_digit_of_lt {d : SymField} (h : d.toNat < 10) :
    ∃ t, exec (.digit d) s = .next t ∧ Rendered s t ⟨d.toNat, h⟩ Config.defaultOnColor :=
  ⟨_, rfl, rendered_doRender (selectSymbol_of_lt h) _⟩

theorem exec_digit_of_gt {d : SymField} (h : 9 < d.toNat) : exec (.digit d) s = .next s :=
  congrArg _ (doRender_of_none (selectSymbol_of_ge h))

theorem exec_pwron (s : State) : ∃ t, exec .pwron s = .next t ∧ Rendered s t 0 Config.defaultOnColor :=
  ⟨_, rfl, rendered_doRender rfl _⟩

theorem exec_clear (s : State) : exec .clear s = .next (doClear s) := rfl

theorem exec_pwroff (s : State) : exec .pwroff s = .next (doClear s) := rfl

theorem doClear_doClear (s : State) : doClear (doClear s) = doClear s := rfl

/-! ## A render keeps the gap counter and reads no other register (R162, R181) -/

theorem doRender_gcnt (p : Platform) (s : State) (sym : SymField) (c : Color) :
    (doRender p s sym c).gcnt = s.gcnt := by
  obtain ⟨-, h⟩ | ⟨k, -, h⟩ := doRender_cases p s sym c <;> rw [h]
  rfl

theorem sameRegisters_doRender {sym : SymField} {k : Symbol} (h : selectSymbol sym = some k)
    (hg : s.gcnt = s'.gcnt) (p : Platform) (c : Color) :
    sameRegisters (doRender p s sym c) (doRender p s' sym c) := by
  rw [doRender_of_some h, doRender_of_some h]
  simp [sameRegisters, State.startTx, State.setFrame, State.setAnim, hg]

/-! ## The list of R183 -/

/-- A frame was built and handed to the encoder: t is s after a render (R162) or a clear (R163). -/
def Transmitted (s t : State) : Prop := (∃ k c, Rendered s t k c) ∨ Cleared s t

theorem Transmitted.started (h : Transmitted s t) : t.st = .shift ∧ t.cell = 0 ∧ t.biti = 23 ∧ t.tcnt = 0 := by
  obtain ⟨k, c, h⟩ | h := h
  · exact h.started
  · exact h.started

theorem Transmitted.animSym_le (h : Transmitted s t) : t.animSym.toNat ≤ 9 := by
  obtain ⟨k, c, h⟩ | h := h
  · rw [h.animSym]
    exact Nat.le_of_lt_succ k.isLt
  · rw [h.animSym]
    exact Nat.zero_le 9

theorem exists_transmitted_of_rendered {i : Instr} {k : Symbol} {c : Color}
    (h : ∃ t, exec i s = .next t ∧ Rendered s t k c) : ∃ t, exec i s = .next t ∧ Transmitted s t := by
  obtain ⟨t, ht, hrend⟩ := h
  exact ⟨t, ht, .inl ⟨k, c, hrend⟩⟩

theorem exists_transmitted_of_cleared {i : Instr} (h : ∃ t, exec i s = .next t ∧ Cleared s t) :
    ∃ t, exec i s = .next t ∧ Transmitted s t := by
  obtain ⟨t, ht, hclear⟩ := h
  exact ⟨t, ht, .inr hclear⟩

theorem exec_char_of_mem {c : Byte} (h : c ∈ selectingCodes) : ∃ t, exec (.char c) s = .next t ∧ Transmitted s t := by
  obtain ⟨h0, h9⟩ | hon | hoff := mem_selectingCodes_iff.mp h
  · exact exists_transmitted_of_rendered (exec_char_of_digit (by omega) h0)
  · exact exists_transmitted_of_rendered (exec_char_of_on hon)
  · exact exists_transmitted_of_cleared (exec_char_of_off hoff)

/-- An instruction of the list renders or clears. -/
theorem exec_of_transmits {i : Instr} (h : transmits i = true) : ∃ t, exec i s = .next t ∧ Transmitted s t := by
  cases i with
  | digit d => exact exists_transmitted_of_rendered (exec_digit_of_lt (Nat.lt_succ_of_le (of_decide_eq_true h)))
  | render sym r g b =>
    exact exists_transmitted_of_rendered (exec_render_of_lt (Nat.lt_succ_of_le (of_decide_eq_true h)) r g b)
  | char c => exact exec_char_of_mem (List.contains_iff_mem.mp h)
  | pwron => exact exists_transmitted_of_rendered (exec_pwron s)
  | charDigit0 | charDigit1 | charDigit2 | charDigit3 | charDigit4 | charDigit5 | charDigit6 | charDigit7
  | charDigit8 | charDigit9 | charUpperL | charLowerL => exact ⟨_, rfl, .inl ⟨_, _, rendered_selectDigit rfl⟩⟩
  | pwroff | clear | charUpperD | charLowerD => exact ⟨_, rfl, .inr cleared_doClear⟩
  | nop | reserved7 | reserved8 | reserved9 | reserved10 | reserved11 | reserved12 | reserved13 | reserved14
  | reserved15 | charOther c => cases h

/-- Any other instruction changes nothing. -/
theorem exec_of_not_transmits {i : Instr} (h : transmits i = false) : exec i s = .next s := by
  cases i with
  | digit d => exact exec_digit_of_gt (Nat.lt_of_not_le (of_decide_eq_false h))
  | render sym r g b => exact exec_render_of_gt (Nat.lt_of_not_le (of_decide_eq_false h)) r g b
  | char c => exact exec_char_of_notMem fun hc => Bool.false_ne_true (h.symm.trans (List.contains_iff_mem.mpr hc))
  | pwron | pwroff | clear | charDigit0 | charDigit1 | charDigit2 | charDigit3 | charDigit4 | charDigit5 | charDigit6
  | charDigit7 | charDigit8 | charDigit9 | charUpperL | charLowerL | charUpperD | charLowerD => cases h
  | nop | reserved7 | reserved8 | reserved9 | reserved10 | reserved11 | reserved12 | reserved13 | reserved14
  | reserved15 | charOther c => rfl

/-! ## What an acceptance logs -/

theorem transmitCount_acceptedEvents (n : Nat) (cw : CmdWord) (after : TopState) (f : Frame) :
    transmitCount (acceptedEvents n cw after f) = if after = .shift then 1 else 0 := by
  unfold acceptedEvents
  split <;> rfl

end Sys2Proof.Machine
end

section
/-! PROOFS. Which ticks write the Animation State and `FRAME`, and which enter `SHIFT`: a reset, or the acceptance of an instruction of the list of R183 (43_animation_controller.md R164, R165). -/

namespace Sys2Proof.Machine

open Sys2Proof.Safety (transmits)

variable {s t : State}

/-- From s to t no operation of the controller ran: the Animation State and `FRAME` are the same, and `SHIFT` is not entered. -/
structure Untouched (s t : State) : Prop where
  animOn  : t.animOn = s.animOn
  animSym : t.animSym = s.animSym
  animR   : t.animR = s.animR
  animG   : t.animG = s.animG
  animB   : t.animB = s.animB
  frame   : t.frame = s.frame
  noEntry : t.st = .shift → s.st = .shift

theorem untouched_elapse (s : State) : Untouched s s.elapse := ⟨rfl, rfl, rfl, rfl, rfl, rfl, id⟩

theorem untouched_of_elapse (h : Untouched s.elapse t) : Untouched s t := { h with }

theorem untouched_stepUninit (p : Config.Platform) (ok : Bool) (s : State) : Untouched s (stepUninit p ok s) := by
  obtain ⟨-, -, he⟩ | ⟨-, he⟩ := stepUninit_cases p ok s <;> rw [he]
  · exact ⟨rfl, rfl, rfl, rfl, rfl, rfl, nofun⟩
  · exact ⟨rfl, rfl, rfl, rfl, rfl, rfl, nofun⟩

theorem untouched_stepShift (hs : s.st = .shift) : Untouched s (stepShift s) := by
  obtain ⟨-, he⟩ | ⟨-, -, he⟩ | ⟨-, -, -, he⟩ | ⟨-, -, -, he⟩ := stepShift_cases s <;> rw [he] <;>
    exact ⟨rfl, rfl, rfl, rfl, rfl, rfl, fun _ => hs⟩

theorem untouched_stepGap (s : State) : Untouched s (stepGap s) := by
  obtain ⟨-, he⟩ | ⟨-, he⟩ := stepGap_cases s <;> rw [he]
  · exact ⟨rfl, rfl, rfl, rfl, rfl, rfl, id⟩
  · exact ⟨rfl, rfl, rfl, rfl, rfl, rfl, nofun⟩

theorem step_untouched_or_reset_or_transmits (h : step s = .next t) :
    Untouched s t ∨ (s.input.rst = true ∧ t = s.elapse.toReset) ∨
    (s.input.rst = false ∧ s.st = .idle ∧ s.input.cmdValid = true ∧ transmits (decodeCmd s.input.cmd) = true ∧
      Transmitted s.elapse t) := by
  obtain hreset | ⟨-, -, rfl⟩ | ⟨-, -, rfl⟩ | ⟨-, -, -, rfl⟩ | ⟨hr, hs, hv, he⟩ | ⟨-, hs, rfl⟩ | ⟨-, -, rfl⟩ :=
    step_cases h
  · exact .inr (.inl hreset)
  · exact .inl (untouched_of_elapse (untouched_stepUninit ..))
  · exact .inl (untouched_elapse s)
  · exact .inl (untouched_elapse s)
  · cases htx : transmits (decodeCmd s.input.cmd) with
    | false =>
      cases he.symm.trans (exec_of_not_transmits htx)
      exact .inl (untouched_elapse s)
    | true =>
      obtain ⟨u, hu, hsent⟩ := exec_of_transmits (s := s.elapse) htx
      cases hu.symm.trans he
      exact .inr (.inr ⟨hr, hs, hv, rfl, hsent⟩)
  · exact .inl (untouched_of_elapse (untouched_stepShift hs))
  · exact .inl (untouched_of_elapse (untouched_stepGap s.elapse))

end Sys2Proof.Machine
end

section
/-! PROOFS. The statements of 43_animation_controller.md. -/

namespace Sys2Proof.Machine

/-- Settles O10: the port carries the word of the row, which the presented tick executes. -/
theorem placedWordRunsNext : Obligations.PlacedWordRunsNext := by
  intro s nbits w i h
  obtain ⟨e, he, rfl⟩ := Option.map_eq_some_iff.mp h
  rw [State.withFetchWord, step_presentCmd, tablePortWord_of_some he]
  exact exec_portWord e _

/-- Settles O20: the inputs have moved on alike, and the case of `ST` reads the same of both samples. -/
theorem busyBlockReadsOnlyReset : Obligations.BusyBlockReadsOnlyReset :=
  fun s _ hs hr hok => stepWith_congr (s := s.elapse) hs hr hok

/-- Settles O28: one branch of `EXEC_CHAR` for each clause. -/
theorem charAppliesSelectionPolicy : Obligations.CharAppliesSelectionPolicy :=
  fun _ _ => ⟨exec_char_of_digit, exec_char_of_on, exec_char_of_off, exec_char_of_notMem⟩

/-- Settles O30: each branch of `EXEC_CHAR` does what the row does. -/
theorem charEqualsItsCharacterRow : Obligations.CharEqualsItsCharacterRow := fun s c => exec_char c s

/-- Settles O32: a tick without reset or such an acceptance runs no operation of the controller. -/
theorem animationStateOwnedByController : Obligations.AnimationStateOwnedByController := by
  intro s t hstep
  obtain h | ⟨hr, rfl⟩ | ⟨hr, hs, hv, htx, hsent⟩ := step_untouched_or_reset_or_transmits hstep
  · exact .inl ⟨h.animOn, h.animSym, h.animR, h.animG, h.animB, h.frame⟩
  · exact .inr (.inl ⟨hr, rfl⟩)
  · exact .inr (.inr ⟨hr, hs, hv, htx, fun _ => hsent.animSym_le⟩)

/-- Settles O33: of the ways a tick can go, only the acceptance of a transmitting command leads into `SHIFT`. -/
theorem shiftEnteredOnlyByAcceptance : Obligations.ShiftEnteredOnlyByAcceptance := by
  intro s t hstep ht hs
  obtain h | ⟨-, rfl⟩ | ⟨hr, hidle, hv, htx, hsent⟩ := step_untouched_or_reset_or_transmits hstep
  · exact absurd (h.noEntry ht) hs
  · cases ht
  · obtain ⟨-, hposition⟩ := hsent.started
    exact ⟨hidle, hr, hv, htx, hposition⟩

/-- Settles O34: a `Transmit` is logged when the command leaves `SHIFT`, which the instructions of the list do and the others do not. -/
theorem oneTransmissionPerOperation : Obligations.OneTransmissionPerOperation := by
  intro s inTx n hs hr hv
  have hexec := step_of_accept hs hr hv
  cases htx : Safety.transmits (decodeCmd s.input.cmd) with
  | false =>
    have hidle : s.elapse.st ≠ .shift := by simp [hs]
    rw [tickEvents_of_accept inTx n hs hr hv (hexec.trans (exec_of_not_transmits htx)),
      transmitCount_acceptedEvents, if_neg hidle]
    rfl
  | true =>
    obtain ⟨t, ht, hsent⟩ := exec_of_transmits (s := s.elapse) htx
    obtain ⟨hshift, -⟩ := hsent.started
    rw [tickEvents_of_accept inTx n hs hr hv (hexec.trans ht), transmitCount_acceptedEvents, if_pos hshift]
    rfl

/-- Settles O36: a render reads no register but the gap counter, which the render before it kept. -/
theorem noBleedBetweenRenders : Obligations.NoBleedBetweenRenders := by
  intro s s' t u u' a b ra ga ba rb gb bb hg _ hb ht hu hu'
  cases ht
  cases hu
  cases hu'
  exact sameRegisters_doRender (selectSymbol_of_lt (Nat.lt_succ_of_le hb)) ((doRender_gcnt ..).trans hg) _ _

/-- Settles O23: the meaning of each of these codes is the state itself. -/
theorem noEffectCommandsChangeNothing : Obligations.NoEffectCommandsChangeNothing :=
  ⟨rfl, fun _ => ⟨rfl, rfl, rfl, rfl, rfl, rfl, rfl, rfl, rfl, rfl⟩⟩

/-- Settles O24: `DO_RENDER` in the default colour, behind the symbol check. -/
theorem digitRendersInDefaultColour : Obligations.DigitRendersInDefaultColour :=
  ⟨fun d chr r g b => by simp only [decodeCmd_packCmd], rfl, fun _ _ => ⟨exec_digit_of_lt, exec_digit_of_gt⟩⟩

/-- Settles O25: `DO_RENDER` of the power-on symbol, which is 0. -/
theorem powerOnRendersSymbolZero : Obligations.PowerOnRendersSymbolZero :=
  ⟨fun sym chr r g b => by simp only [decodeCmd_packCmd], rfl, fun s => ⟨exec_pwron s, rfl⟩⟩

/-- Settles O26: `DO_RENDER` stores the codes as they are and the frame of their colour word, behind the symbol check. -/
theorem renderShowsSymbolInColour : Obligations.RenderShowsSymbolInColour :=
  ⟨fun sym chr r g b => by simp only [decodeCmd_packCmd], rfl,
    fun _ _ r g b => ⟨fun h => exec_render_of_lt h r g b, fun h => exec_render_of_gt h r g b⟩⟩

/-- Settles O27: both commands are `DO_CLEAR`. -/
theorem clearAndPowerOffTurnOff : Obligations.ClearAndPowerOffTurnOff :=
  ⟨fun sym chr r g b => by simp only [decodeCmd_packCmd, and_self], rfl, rfl,
    fun s => ⟨⟨_, exec_clear s, cleared_doClear⟩, ⟨_, exec_pwroff s, cleared_doClear⟩, rfl⟩⟩

/-- Settles O35: a clear gives the Off state and the zero frame from whatever state the instruction left. -/
theorem clearAfterAnythingIsDark : Obligations.ClearAfterAnythingIsDark := by
  intro i s t u _ hu
  cases (exec_clear t).symm.trans hu
  have h : Safety.Cleared t (doClear t) := cleared_doClear
  exact ⟨h.dark, h.animOn, h.animSym, h.animR, h.animG, h.animB⟩

/-- Settles O37: a clear of a cleared state is that state, and the accept tick hands over the zero frame. -/
theorem clearTwiceIsClearOnce : Obligations.ClearTwiceIsClearOnce := by
  intro s t u ht hu
  cases (exec_clear s).symm.trans ht
  cases (exec_clear _).symm.trans hu
  refine ⟨doClear_doClear s, fun s' inTx n hs hr hv hcmd => ?_⟩
  have hstep : step s' = .next (doClear s'.elapse) := by rw [step_of_accept hs hr hv, hcmd, exec_clear]
  rw [tickEvents_of_accept inTx n hs hr hv hstep]
  rfl

end Sys2Proof.Machine
end

section
/-! PROOFS. The errors of the block: which ticks enter `HALTED`, and what an invalid selection does (60_exceptions.md R201, R203, R210). -/

namespace Sys2Proof.Machine

variable {s t : State}

/-! ## The ways into `HALTED` (R201) -/

theorem configGood_eq_false_of_halted {p : Config.Platform} {ok : Bool} (h : (stepUninit p ok s).st = .halted) :
    configGood p ok = false := by
  by_contra hgood
  rw [stepUninit_of_good (Bool.eq_true_of_not_eq_false hgood)] at h
  cases h

theorem stepShift_st (hs : s.st = .shift) : (stepShift s).st = .shift ∨ (stepShift s).st = .gap := by
  obtain ⟨-, he⟩ | ⟨-, -, he⟩ | ⟨-, -, -, he⟩ | ⟨-, -, -, he⟩ := stepShift_cases s <;> rw [he]
  · exact .inl hs
  · exact .inl hs
  · exact .inl hs
  · exact .inr rfl

theorem stepGap_st (hs : s.st = .gap) : (stepGap s).st = .gap ∨ (stepGap s).st = .idle := by
  obtain ⟨-, he⟩ | ⟨-, he⟩ := stepGap_cases s <;> rw [he]
  · exact .inl hs
  · exact .inr rfl

theorem step_to_halted (h : step s = .next t) (ht : t.st = .halted) :
    s.input.rst = false ∧
    (s.st = .halted ∨ (s.st = .uninit ∧ configGood Config.platform s.input.cfgChanOk = false)) := by
  obtain ⟨-, rfl⟩ | ⟨hr, hs, rfl⟩ | ⟨hr, hs, -⟩ | ⟨-, hs, -, rfl⟩ | ⟨-, hs, -, he⟩ | ⟨-, hs, rfl⟩ | ⟨-, hs, rfl⟩ :=
    step_cases h
  · cases ht
  · exact ⟨hr, .inr ⟨hs, configGood_eq_false_of_halted ht⟩⟩
  · exact ⟨hr, .inl hs⟩
  · cases hs.symm.trans ht
  · obtain rfl | ⟨hshift, -⟩ := exec_same_or_starts he
    · cases hs.symm.trans ht
    · cases hshift.symm.trans ht
  · obtain h' | h' := stepShift_st (s := s.elapse) hs <;> cases h'.symm.trans ht
  · obtain h' | h' := stepGap_st (s := s.elapse) hs <;> cases h'.symm.trans ht

/-! ## Invalid selection (R203) -/

theorem decodeCmd_of_digit {cw : CmdWord} (h : opOf cw = 1) : decodeCmd cw = .digit (symOf cw) := by
  simp [decodeCmd, h]

theorem decodeCmd_of_render {cw : CmdWord} (h : opOf cw = 4) :
    decodeCmd cw = .render (symOf cw) (rOf cw) (gOf cw) (bOf cw) := by
  simp [decodeCmd, h]

theorem exec_of_invalid_selection {cw : CmdWord} (hop : opOf cw = 1 ∨ opOf cw = 4) (hsym : 9 < (symOf cw).toNat) :
    exec (decodeCmd cw) s = .next s := by
  obtain hop | hop := hop
  · rw [decodeCmd_of_digit hop]
    exact exec_digit_of_gt hsym
  · rw [decodeCmd_of_render hop]
    exact exec_render_of_gt hsym ..

end Sys2Proof.Machine
end

section
/-! PROOFS. The statements of 60_exceptions.md. -/

namespace Sys2Proof.Machine

/-- Settles O16: of the cases of a tick only a failed check leads into `HALTED`, which absorbs every tick without reset. -/
theorem haltEnteredOnlyAtInitialisation : Obligations.HaltEnteredOnlyAtInitialisation := by
  intro s t hstep
  obtain ⟨-, hleave⟩ := haltedIsAbsorbing
  exact ⟨step_to_halted hstep, fun hs => hleave s t hs hstep⟩

/-- Settles O31: the word is executed in the accept tick and changes nothing, so the block stays in `IDLE` and no `Transmit` is logged. -/
theorem invalidSelectionIsNoOp : Obligations.InvalidSelectionIsNoOp := by
  intro s inTx n hs hr hv hop hsym
  have hstep : step s = .next s.elapse := (step_of_accept hs hr hv).trans (exec_of_invalid_selection hop hsym)
  have hidle : s.elapse.st ≠ .shift := by simp [hs]
  refine ⟨hstep, (cmdReady_iff s.elapse).mpr hs, ?_⟩
  rw [tickEvents_of_accept inTx n hs hr hv hstep]
  exact if_neg hidle

end Sys2Proof.Machine
end

section
/-! PROOFS. Ticks with reset, the strap, and the start-up: what a run leaves of the schedule, what a tick reads of the strap, and the gap after a good check as the last phases of a transmission (70_reset_and_hazards.md R230, R232, R245). -/

namespace Sys2Proof.Machine

open Sys2Proof.Safety (reaches noReset)
open Sys2Proof.Config (Input)

variable {s t : State} {j k : Nat}

/-! ## Reset wins in the last tick of a run (R230) -/

theorem exists_reaches (k : Nat) (s : State) : ∃ t, reaches k s t := by
  induction k generalizing s with
  | zero => exact ⟨s, rfl⟩
  | succ k ih =>
    obtain ⟨u, hstep⟩ := step_answers_next s
    obtain ⟨t, hrun⟩ := ih u
    exact ⟨t, (reaches_succ hstep).mpr hrun⟩

/-- A run of k ticks takes k samples, whatever it does. -/
theorem inputAt_of_reaches (h : reaches k s t) (j : Nat) : t.inputAt j = s.inputAt (j + k) := by
  refine reaches_induction (P := fun k v => ∀ j, v.inputAt j = s.inputAt (j + k)) h (fun _ => rfl)
    (fun k v w _ hv hstep j => ?_) j
  rw [inputAt_of_step hstep, hv, Nat.add_assoc, Nat.add_comm 1]

/-- Whatever happened in the ticks before, a reset tick at the end of a run leads to the reset state. -/
theorem run_to_reset (hr : (s.inputAt k).rst = true) : ∃ t : State, reaches (k + 1) s t.toReset := by
  obtain ⟨u, hrun⟩ := exists_reaches k s
  have hu : u.input.rst = true := by rwa [State.input, inputAt_of_reaches hrun, Nat.zero_add]
  exact ⟨u.elapse, reaches_succ_last.mpr ⟨u, hrun, step_of_rst hu⟩⟩

/-! ## The strap (R245) -/

/-- Outside `UNINIT` the strap is not read, in `IDLE` neither. -/
theorem stepWith_chanOk (hs : s.st ≠ .uninit) (i : Input) (ok : Bool) :
    stepWith { i with cfgChanOk := ok } s = stepWith i s := by
  by_cases hidle : s.st = .idle
  · simp [stepWith, stepIdle, hidle]
  · exact stepWith_congr hidle rfl fun h => absurd h hs

/-! ## The start-up (R232) -/

theorem TxPhase.count_of_mem (h : TxPhase j s) (h0 : 1800 ≤ j) (hj : j < 1920) : s.gcnt.toNat + 1800 = j := by
  cases h with
  | burst | ready => omega
  | gap _ _ hcount => exact hcount

theorem TxPhase.untouched_of_step (h : TxPhase j s) (hj : j < 1920) (hr : s.input.rst = false)
    (hstep : step s = .next t) : Untouched s t := by
  cases h with
  | burst _ hs =>
    cases (step_of_shift hs hr).symm.trans hstep
    exact untouched_of_elapse (untouched_stepShift hs)
  | gap _ hs =>
    cases (step_of_gap hs hr).symm.trans hstep
    exact untouched_of_elapse (untouched_stepGap s.elapse)
  | ready => omega

theorem TxPhase.animOn_of_reaches (h : TxPhase j s) (hk : j + k ≤ 1920) (hr : noReset s k) (hrun : reaches k s t) :
    t.animOn = s.animOn := by
  induction k generalizing j s with
  | zero => rw [reaches_zero.mp hrun]
  | succ k ih =>
    obtain ⟨u, hstep, hu, -⟩ := h.exists_next (by omega) (noReset_head hr)
    have hlater := ih hu (by omega) (noReset_tail hstep hr) ((reaches_succ hstep).mp hrun)
    exact hlater.trans (h.untouched_of_step (by omega) (noReset_head hr) hstep).animOn

theorem step_of_good_strap (hs : s.st = .uninit) (hr : s.input.rst = false) (hok : s.input.cfgChanOk = true) :
    step s = .next s.elapse.enterGap := by
  rw [step_of_uninit hs hr, stepUninit_of_good ((configGood_platform _).trans hok)]

theorem step_of_bad_strap (hs : s.st = .uninit) (hr : s.input.rst = false) (hok : s.input.cfgChanOk = false) :
    step s = .next s.elapse.halt := by
  rw [step_of_uninit hs hr, stepUninit_of_bad ((configGood_platform _).trans hok)]

/-- The good check enters the phases of the gap, which keep the block dark if it was. -/
theorem run_of_good_strap (hs : s.st = .uninit) (hok : s.input.cfgChanOk = true) (hk : k ≤ 120)
    (hr : noReset s (k + 1)) : ∃ t, reaches (k + 1) s t ∧ TxPhase (1800 + k) t ∧ t.animOn = s.animOn := by
  have hstep := step_of_good_strap hs (noReset_head hr) hok
  have hphase := txPhase_enterGap s.elapse
  have hlater := noReset_tail hstep hr
  obtain ⟨t, hrun, ht, -⟩ := hphase.run (by omega) hlater
  exact ⟨t, (reaches_succ hstep).mpr hrun, ht, hphase.animOn_of_reaches (by omega) hlater hrun⟩

theorem run_of_bad_strap (hs : s.st = .uninit) (hok : s.input.cfgChanOk = false) (hr : noReset s (k + 1)) :
    ∃ t, reaches (k + 1) s t ∧ t.st = .halted := by
  have hstep := step_of_bad_strap hs (noReset_head hr) hok
  obtain ⟨t, hrun, hregs⟩ := run_of_halted s.elapse.halt_st (noReset_tail hstep hr)
  exact ⟨t, (reaches_succ hstep).mpr hrun, sameRegisters_st hregs⟩

end Sys2Proof.Machine
end

section
/-! PROOFS. The statements of 70_reset_and_hazards.md. -/

namespace Sys2Proof.Machine

/-- Settles O13: the last of the reset ticks leads to the reset state, and a tick without reset in it is the check. -/
theorem resetFromAnyState : Obligations.ResetFromAnyState := by
  intro s k hr
  obtain ⟨t, hrun⟩ := run_to_reset (hr k le_rfl)
  exact ⟨t.toReset, hrun, sameRegisters_toReset t, outputs_reset, step_of_uninit t.toReset_st⟩

/-- Settles O21: outside `UNINIT` no case of the tick reads the strap; in it the check does, and decides by it alone when the rows have N cells. -/
theorem channelStrapSampledOnce : Obligations.ChannelStrapSampledOnce := by
  refine ⟨fun s ok hs => stepWith_chanOk (s := s.elapse) hs s.input ok, fun s ok hs hr => step_of_uninit hs hr,
    fun p s hp => ⟨?_, ?_⟩⟩
  · rw [stepUninit_of_good ((configGood_iff p true).mpr ⟨rfl, hp⟩), State.enterGap_st]
  · rw [stepUninit_of_bad ((configGood_eq_false_iff p false).mpr (.inl rfl)), State.halt_st]

/-- Settles O41: the good check enters the gap, whose T_RESET phases lead to `IDLE`; the bad one enters `HALTED`, which absorbs. -/
theorem startUpSequence : Obligations.StartUpSequence := by
  intro s hs _
  have hst : s.st = .uninit := hs ▸ s.toReset_st
  have hdark : s.animOn = false := hs ▸ s.toReset_animOn
  refine ⟨fun hok hr => ⟨fun k h0 hk => ?_, ?_⟩, fun k hok hr => run_of_bad_strap hst hok hr⟩
  · obtain ⟨j, rfl⟩ := Nat.exists_eq_add_of_le' h0
    rw [tReset_eq] at hk
    obtain ⟨t, hrun, ht, hanim⟩ := run_of_good_strap hst hok (by omega) (noReset_mono hr (Nat.le_succ_of_le hk))
    have hgap : t.st = .gap := ht.gap_of_mem (by omega) (by omega)
    have hcount := ht.count_of_mem (by omega) (by omega)
    exact ⟨t, hrun, hgap, by omega, ht.not_ready (by omega), dout_of_ne_shift (by simp [hgap]), hanim.trans hdark⟩
  · obtain ⟨t, hrun, ht, hanim⟩ := run_of_good_strap hst hok le_rfl hr
    have hidle : t.st = .idle := ht.idle_of_eq rfl
    exact ⟨t, hrun, hidle, (cmdReady_iff t).mpr hidle, hanim.trans hdark⟩

end Sys2Proof.Machine
end
